-- ==== Sys2Proof/Word.lean ====
section
/-! DEFINITION. The word types of the CORE: bytes of buffers and wire, and the register widths of
rule R22 (spec/10_state.md). Everything is unsigned (rule R10, spec/00_scope.md). -/

namespace Sys2Proof

/-- A byte of a buffer or of the wire (R10). -/
abbrev Byte := BitVec 8

/-- A CRC-16 value (R120) or a 16-bit register field. -/
abbrev Word16 := BitVec 16

/-- A 32-bit operation word (R80), tick count (R312) or transaction id (D16). -/
abbrev Word32 := BitVec 32

/-- A host-visible register, 64 bits wide (R22). -/
abbrev Word64 := BitVec 64

end Sys2Proof
end

