-- ==== Sys2Proof/Config.lean ====
section
/-! DEFINITION. The build-time parameters of rule R7 (spec/00_scope.md). `Params` has a field for every
row, and the machine reads its parameters from there: the state carries one `Params` and no step changes
it. A row that R7 leaves OPEN, and P_POOL_PASSTHRU (conflict C4), may have any value of its type, so a
statement about every state holds for every choice (rule R332; log 5). A row that R7 gives a value has
that value and no other (log 10); the values are the constants of `Sys2Proof.Config`, by which the
layouts of rules R86 to R93 name them too. -/

namespace Sys2Proof.Config

/-- P_KEY_LEN, the size of KEYBUF (R7, R40). -/
def keyLen : Nat := 20
/-- P_POS_LEN (R7, R181). -/
def posFieldLen : Nat := 4
/-- P_POS_PAD (R7, decision D12). -/
def posPad : Byte := 0x00
/-- P_REG_CODE, the first payload byte of 0x73 (R7, R88). -/
def regCode : Byte := 0x01
/-- P_MAX_METER_BYTES (R7, R162). -/
def maxMeterBytes : Nat := 9
/-- P_BAL_MIN, the shortest balance response (R7, R200). -/
def balMin : Nat := 27
/-- P_BAL_OFF of the cashable field (R7, R92). -/
def cashOff : Nat := 12
/-- P_BAL_OFF of the restricted field (R7, R92). -/
def restOff : Nat := 17
/-- P_BAL_OFF of the non-restricted field (R7, R92). -/
def nonrOff : Nat := 22
/-- P_PBUF, the size of PBUF (R7, R40). -/
def pbufSize : Nat := 256
/-- P_FRAME_MAX, the size of TXBUF and of RXBUF (R7, R40). -/
def frameMax : Nat := 260
/-- P_TXID_W, the width of the transaction-id counter in bits (R7, decision D16). -/
def txidWidth : Nat := 32
/-- P_VALUE_W, the width of operand and result values in bits (R7, decision D10). -/
def valueWidth : Nat := 64
/-- P_RETRY, the retries of a timed-out exchange step (R7). -/
def retries : Nat := 1
/-- P_TICK, the period of the time base in milliseconds (R7, decision D5). -/
def tickMs : Nat := 1
/-- The number of entries of MTAB (R40). -/
def mtabSize : Nat := 256
/-- P_BCD_MAXLEN, the largest byteLen of BCD_ENC and BCD_DEC (R7, R101). -/
def bcdMaxLen : Nat := 8
/-- The bytes of one amount field on the wire, ten decimal digits (R89, R92). -/
def amountLen : Nat := 5
/-- The first amount that no amount field holds, 10^10 cents (R183, R250). -/
def amountLimit : Nat := 10 ^ 10

end Sys2Proof.Config

namespace Sys2Proof

/-- The type of a row to which R7 gives a value: the argument is that value. -/
abbrev Fixed {α : Type} (v : α) : Type := { x : α // x = v }

/-- Every row of R7, in its order. -/
structure Params where
  /-- P_KEY_LEN, the bytes of the registration key and the size of KEYBUF. -/
  keyLen : Fixed Config.keyLen
  /-- P_POS_LEN, the bytes of the posId field. -/
  posFieldLen : Fixed Config.posFieldLen
  /-- P_POS_PAD, the pad byte of the posId field. -/
  posPad : Fixed Config.posPad
  /-- P_REG_CODE, the first payload byte of 0x73. -/
  regCode : Fixed Config.regCode
  /-- P_XFER_CODE, transferCode of 0x72. OPEN. -/
  xferCode : Byte
  /-- P_XFER_INDEX, transferIndex of 0x72. OPEN. -/
  xferIndex : Byte
  /-- P_XFER_FLAGS, transferFlags of 0x72. OPEN. -/
  xferFlags : Byte
  /-- P_TYPE_BYTE[0], transferTypeByte of a cashable transfer. OPEN. -/
  typeByteCash : Byte
  /-- P_TYPE_BYTE[1], of a restricted transfer. OPEN. -/
  typeByteRest : Byte
  /-- P_TYPE_BYTE[2], of a non-restricted transfer. OPEN. -/
  typeByteNonr : Byte
  /-- P_POOL_PASSTHRU: emit CFG_POOLID in the poolId field of 0x72. An option (conflict C4). -/
  poolPassthru : Bool
  /-- P_MAX_METER_BYTES, the largest legal value-length of a meter entry. -/
  maxMeterBytes : Fixed Config.maxMeterBytes
  /-- P_METER_SCALE of a code that `meterScaleOf` does not list (R163). OPEN. -/
  meterScale : Nat
  /-- P_METER_SCALE of single codes (R163: "open per code"). OPEN. -/
  meterScaleOf : List (Byte × Nat)
  /-- P_LOCK_OFF, in 0..26 (R202). OPEN. -/
  lockOff : Fin 27
  /-- P_AFT_OFF, in 0..26 (R202). OPEN. -/
  aftOff : Fin 27
  /-- P_BAL_MIN, the bytes of the shortest balance response. -/
  balMin : Fixed Config.balMin
  /-- P_BAL_OFF of the cashable field. -/
  cashOff : Fixed Config.cashOff
  /-- P_BAL_OFF of the restricted field. -/
  restOff : Fixed Config.restOff
  /-- P_BAL_OFF of the non-restricted field. -/
  nonrOff : Fixed Config.nonrOff
  /-- P_PBUF, the size of PBUF. -/
  pbufSize : Fixed Config.pbufSize
  /-- P_FRAME_MAX, the size of TXBUF and of RXBUF. -/
  frameMax : Fixed Config.frameMax
  /-- P_TXID_W, the width of the transaction-id counter in bits. -/
  txidWidth : Fixed Config.txidWidth
  /-- P_VALUE_W, the width of operand and result values in bits. -/
  valueWidth : Fixed Config.valueWidth
  /-- P_BCD_MAXLEN, the largest byteLen of BCD_ENC and BCD_DEC. -/
  bcdMaxLen : Fixed Config.bcdMaxLen
  /-- P_RETRY, the retries of a timed-out exchange step. -/
  retries : Fixed Config.retries
  /-- P_TICK, the period of the time base in milliseconds. -/
  tickMs : Fixed Config.tickMs
deriving DecidableEq, Repr

/-- The values of R7, and its defaults for the OPEN rows. -/
def Params.default : Params where
  keyLen := ⟨20, rfl⟩
  posFieldLen := ⟨4, rfl⟩
  posPad := ⟨0x00, rfl⟩
  regCode := ⟨0x01, rfl⟩
  xferCode := 0x00
  xferIndex := 0x00
  xferFlags := 0x00
  typeByteCash := 0x00
  typeByteRest := 0x00
  typeByteNonr := 0x00
  poolPassthru := false
  maxMeterBytes := ⟨9, rfl⟩
  meterScale := 100
  meterScaleOf := []
  lockOff := 7
  aftOff := 10
  balMin := ⟨27, rfl⟩
  cashOff := ⟨12, rfl⟩
  restOff := ⟨17, rfl⟩
  nonrOff := ⟨22, rfl⟩
  pbufSize := ⟨256, rfl⟩
  frameMax := ⟨260, rfl⟩
  txidWidth := ⟨32, rfl⟩
  valueWidth := ⟨64, rfl⟩
  bcdMaxLen := ⟨8, rfl⟩
  retries := ⟨1, rfl⟩
  tickMs := ⟨1, rfl⟩

end Sys2Proof
end

