-- ==== Sys2Proof/Machine/Bytes.lean ====
section
/-! DEFINITION. Byte orders of rules R12, R63, R64 (spec/00_scope.md, spec/20_memory.md): the asset
number and the CRC low byte first, a digit string most significant byte first. -/

namespace Sys2Proof

/-- `[v[7:0], v[15:8]]`: the CRC on the wire (R121), and CFG_POOLID if emitted (R183). -/
def le16 (v : Word16) : List Byte := [v.extractLsb' 0 8, v.extractLsb' 8 8]

/-- The 16-bit value whose low byte comes first. -/
def ofLe16 (lo hi : Byte) : Word16 := hi ++ lo

/-- `LE32(v)` (R12). -/
def le32 (v : Word32) : List Byte :=
  [v.extractLsb' 0 8, v.extractLsb' 8 8, v.extractLsb' 16 8, v.extractLsb' 24 8]

/-- The 32-bit value that `le32` writes. -/
def ofLe32 : List Byte → Word32
  | [a, b, c, d] => d ++ c ++ b ++ a
  | _ => 0

/-- Byte i of a register that holds bytes: bits [8i+7:8i] (R64). -/
def byteOf (v : Word64) (i : Nat) : Byte := v.extractLsb' (8 * i) 8

/-- The low n bytes of a register, most significant first (R104). -/
def lowBytesBE (v : Word64) (n : Nat) : List Byte :=
  (List.range n).map fun k => byteOf v (n - 1 - k)

/-- Bytes, most significant first, as a register: `sum of zext(bs[k]) << 8*(n-1-k)` (R101). -/
def word64OfBE (bs : List Byte) : Word64 :=
  bs.foldl (fun w b => (w <<< 8) ||| b.setWidth 64) 0

/-- `bs[i..j)` (R10). -/
def slice (bs : List Byte) (i j : Nat) : List Byte := (bs.take j).drop i

/-- `bs[i]`; a byte that is not there reads 0x00, as in R41. -/
def byteAt (bs : List Byte) (i : Nat) : Byte := bs.getD i 0

end Sys2Proof
end

