-- ==== Sys2Proof/Machine/Crc.lean ====
section
/-! DEFINITION. The CRC-16/Kermit generator of spec/41_crc.md, rules R120 to R123. -/

namespace Sys2Proof

/-- One shift of the bit-serial register (R120). -/
def crcBit (crc : Word16) : Word16 :=
  if crc.getLsbD 0 then (crc >>> 1) ^^^ 0x8408#16 else crc >>> 1

/-- One byte: it enters at the low end, then eight shifts (R120). -/
def crcByte (crc : Word16) (b : Byte) : Word16 :=
  crcBit (crcBit (crcBit (crcBit (crcBit (crcBit (crcBit (crcBit (crc ^^^ b.setWidth 16))))))))

/-- The register after the bytes, from a given register value. -/
def crcFrom (crc : Word16) (bs : List Byte) : Word16 := bs.foldl crcByte crc

/-- `CRC(bs)` (R120): initial value 0x0000, no final XOR (the spec's item I1, log 9). -/
def crc16 (bs : List Byte) : Word16 := crcFrom 0 bs

/-- One byte in the nibble form of R123, property 2. -/
def crcNibbleByte (crc : Word16) (b : Byte) : Word16 :=
  let x := b.setWidth 16
  let q := (crc ^^^ x) &&& 0xF
  let crc := (crc >>> 4) ^^^ (q * 0x1081)
  let q := (crc ^^^ (x >>> 4)) &&& 0xF
  (crc >>> 4) ^^^ (q * 0x1081)

/-- The CRC in the nibble form of R123, property 2. -/
def crcNibble (bs : List Byte) : Word16 := bs.foldl crcNibbleByte 0

end Sys2Proof
end

