-- ==== Sys2Proof/Machine/Frame.lean ====
section
/-! DEFINITION. The frame functions of spec/42_frame.md, rules R140, R142, R144. -/

namespace Sys2Proof

/-- Address, command, length and payload: what the CRC covers (R121, R140). -/
def frameBody (address command : Byte) (payload : List Byte) : List Byte :=
  address :: command :: BitVec.ofNat 8 payload.length :: payload

/-- `FRAME(a, c, p)` (R140), for payloads of at most 255 bytes. -/
def buildFrame (address command : Byte) (payload : List Byte) : List Byte :=
  frameBody address command payload ++ le16 (crc16 (frameBody address command payload))

/-- `PARSEOK(bs)` (R144): the declared length is exactly what follows the header, CRC included. The
CRC itself is not checked. -/
def parseOk (bs : List Byte) : Bool :=
  3 ≤ bs.length && bs.length == 3 + (byteAt bs 2).toNat + 2

end Sys2Proof
end

