-- ==== Sys2Proof/Machine/Bcd.lean ====
section
/-! DEFINITION. The decimal-digit-string codec of spec/40_bcd.md, rules R100, R103, R105, and the
decimal digits of rule R12 and their ASCII codes. -/

namespace Sys2Proof

/-- Decimal digits, most significant first, in front of `acc`; the first argument bounds the
recursion. -/
def digitsAux : Nat → Nat → List Nat → List Nat
  | 0, _, acc => acc
  | fuel + 1, v, acc => if v < 10 then v :: acc else digitsAux fuel (v / 10) (v % 10 :: acc)

/-- `digits(v)` (R12): no leading zeros, and 0 has the one digit 0. -/
def digits (v : Nat) : List Nat := digitsAux (v + 1) v []

/-- The number a digit string spells. -/
def ofDigits (ds : List Nat) : Nat := ds.foldl (fun v d => v * 10 + d) 0

/-- One byte of two digits, the earlier in bits [7:4] (R100). -/
def digitPair (hi lo : Nat) : Byte := (BitVec.ofNat 4 hi) ++ (BitVec.ofNat 4 lo)

/-- A digit string of even length, two digits a byte (R100). -/
def packDigits : List Nat → List Byte
  | hi :: lo :: rest => digitPair hi lo :: packDigits rest
  | _ => []

/-- The bytes of `BCDENC(v, n)` when v fits: the digits left-padded with zeros to 2n (R100). -/
def bcdBytes (v n : Nat) : List Byte :=
  packDigits (List.replicate (2 * n - (digits v).length) 0 ++ digits v)

/-- `BCDENC(v, n)` (R100); none is EncodingError. -/
def bcdEncode (v n : Nat) : Option (List Byte) :=
  if (digits v).length ≤ 2 * n then some (bcdBytes v n) else none

/-- The two decimal digits of a byte, if both nibbles are digits (R103). -/
def digitsOfByte (b : Byte) : Option Nat :=
  let hi := (b.extractLsb' 4 4).toNat
  let lo := (b.extractLsb' 0 4).toNat
  if hi ≤ 9 ∧ lo ≤ 9 then some (hi * 10 + lo) else none

/-- The digits of the bytes continue the value v (R103). -/
def bcdDecodeFrom (v : Nat) : List Byte → Option Nat
  | [] => some v
  | b :: bs =>
    match digitsOfByte b with
    | some d => bcdDecodeFrom (v * 100 + d) bs
    | none => none

/-- `BCDDEC(bs)` (R103); none is DigitError. -/
def bcdDecode (bs : List Byte) : Option Nat := bcdDecodeFrom 0 bs

/-- `ASCII` of one decimal digit (R12). -/
def asciiDigit (d : Nat) : Byte := BitVec.ofNat 8 (0x30 + d)

/-- `ASCII(digits(id))` (R185). -/
def asciiOfId (id : Word32) : List Byte := (digits id.toNat).map asciiDigit

/-- The digit an ASCII code stands for. -/
def digitOfAscii (b : Byte) : Option Nat :=
  if 0x30 ≤ b.toNat ∧ b.toNat ≤ 0x39 then some (b.toNat - 0x30) else none

end Sys2Proof
end

