-- ==== Sys2Proof/Syntax.lean ====
section
/-! DEFINITION. The instructions: one constructor for each row of spec/opcode_table.json. The first
fifteen are the host operations of rule R82 (spec/30_encoding.md); the last six are the wire rows,
frames that carry the fields of rules R88 to R93 (log 3). -/

namespace Sys2Proof

/-- The source operand of CRC16 (R122: ARG 0, 1, 2). -/
inductive CrcSource where
  | pbuf | txbuf | rxbuf
deriving DecidableEq, Repr

/-- transferType (R82): 0 cashable, 1 restricted, 2 non-restricted. -/
inductive TransferType where
  | cashable | restricted | nonRestricted
deriving DecidableEq, Repr

/-- The fields of a 0x73 frame that R88 does not fix. -/
structure RegistrationFrame where
  address : Byte
  assetNumber : Word32
  /-- 20 bytes. -/
  registrationKey : List Byte
  /-- 4 bytes. -/
  posId : List Byte
deriving DecidableEq, Repr

/-- The fields of a 0x72 frame that R89 does not fix. Amounts are cents. -/
structure TransferFrame where
  address : Byte
  transferCode : Byte
  transferIndex : Byte
  transferTypeByte : Byte
  cashable : Nat
  restricted : Nat
  nonRestricted : Nat
  transferFlags : Byte
  assetNumber : Word32
  /-- 20 bytes. -/
  registrationKey : List Byte
  transactionId : Word32
  poolId : Word16
deriving DecidableEq, Repr

/-- A response that begins as R92 says: byte 1 is 0x74, and there are at least 27 bytes. The length
byte and everything after the amounts are not checked by the CORE, so they are fields. -/
structure BalanceResponse where
  address : Byte
  lengthByte : Byte
  /-- Bytes 3 to 11; lockStatus and aftStatus normally stand here (R202). -/
  header : List Byte
  /-- Bytes 12 to 16. -/
  cashable : List Byte
  /-- Bytes 17 to 21. -/
  restricted : List Byte
  /-- Bytes 22 to 26. -/
  nonRestricted : List Byte
  /-- Bytes 27 and on: whatever follows, the CRC included. -/
  tail : List Byte
deriving DecidableEq, Repr

/-- One item of a meter response (R93). -/
inductive MeterItem where
  | padding
  | entry (code reserved : Byte) (value : List Byte)
deriving DecidableEq, Repr

/-- A 0xAF response whose payload is a sequence of items (R93). The CRC is a field because no parser
checks it (R144). -/
structure MeterResponse where
  address : Byte
  items : List MeterItem
  crc : Word16
deriving DecidableEq, Repr

/-- Every row of spec/opcode_table.json. -/
inductive Instr where
  /-- NOP (R224) -/
  | nop
  /-- CRC16 (R122) -/
  | crc16 (source : CrcSource)
  /-- BCD_ENC (R101) -/
  | bcdEnc (byteLen : Byte)
  /-- BCD_DEC (R104) -/
  | bcdDec (byteLen : Byte)
  /-- FRAME_BUILD (R141) -/
  | frameBuild (command : Byte)
  /-- FRAME_PARSE (R143) -/
  | frameParse
  /-- METER_PARSE (R160) -/
  | meterParse
  /-- BUILD_REG (R180) -/
  | buildReg
  /-- BUILD_XFER (R183) -/
  | buildXfer (type : TransferType)
  /-- BUILD_BALQ (R186) -/
  | buildBalq
  /-- BAL_PARSE (R200) -/
  | balParse
  /-- XCHG (R225) -/
  | xchg
  /-- AFT_START (R250) -/
  | aftStart (type : TransferType)
  /-- AFT_CANCEL (R262) -/
  | aftCancel
  /-- AFT_CLEAR (R265) -/
  | aftClear
  /-- WIRE_AFT_REGISTRATION_0x73 (R88): sent by the CORE -/
  | wireAftRegistration (frame : RegistrationFrame)
  /-- WIRE_AFT_TRANSFER_0x72 (R89): sent by the CORE -/
  | wireAftTransfer (frame : TransferFrame)
  /-- WIRE_BALANCE_QUERY_0x74 (R90): sent by the CORE -/
  | wireBalanceQuery (address : Byte)
  /-- WIRE_BALANCE_RESPONSE_0x74 (R92): received by the CORE -/
  | wireBalanceResponse (response : BalanceResponse)
  /-- WIRE_METER_READ_0xAF (R91): sent by the CORE -/
  | wireMeterRead (address : Byte) (payload : List Byte)
  /-- WIRE_METER_RESPONSE_0xAF (R93): received by the CORE -/
  | wireMeterResponse (response : MeterResponse)
deriving DecidableEq, Repr

end Sys2Proof
end

