-- ==== Sys2Proof/Machine/State.lean ====
section
/-! DEFINITION. The machine's state (rules R20 to R46, spec/10_state.md) as plain data, the events
that act on it (rule R330, spec/70_reset_and_hazards.md), and the state right after reset (R24, R42,
R45, R333). -/

namespace Sys2Proof.Machine

/-- The result codes of R300. Codes 10 to 15 are never written, so they have no constructor. -/
inductive ErrCode where
  /-- 0, OK -/
  | ok
  /-- 1, TransportError -/
  | transportError
  /-- 2, FrameError -/
  | frameError
  /-- 3, EncodingError -/
  | encodingError
  /-- 4, ResponseTooShort -/
  | responseTooShort
  /-- 5, SequenceTimeout -/
  | sequenceTimeout
  /-- 6, DigitError -/
  | digitError
  /-- 7, IllegalOp -/
  | illegalOp
  /-- 8, Busy -/
  | busy
  /-- 9, Cancelled -/
  | cancelled
deriving DecidableEq, Repr

/-- The sequencer states of R30, codes 0 to 8. -/
inductive SeqState where
  | idle | registering | awaitRegistrationSettle | transferring | awaitTransferSettle
  | verifyingBalance | done | doneUnconfirmed | failed
deriving DecidableEq, Repr

/-- STATUS.PHASE (R26): 0 NONE, 1 TX, 2 RX, 3 WAIT. -/
inductive Phase where
  | none | tx | rx | wait
deriving DecidableEq, Repr

/-- OWNER (R45): 0 a standalone XCHG, 1 the sequencer. -/
inductive Owner where
  | standalone | sequencer
deriving DecidableEq, Repr

/-- The outcome of an exchange (R227). -/
inductive ExchangeOutcome where
  | bytes | none | transport
deriving DecidableEq, Repr

/-- A byte memory: (index, byte) pairs, indices strictly rising, no byte 0x00 listed; an index that is
not listed reads 0x00, the contents R42 gives after reset. -/
abbrev Memory := List Host.Cell

/-- MTAB (R40, R44): (code, VAL) for the entries with V = 1, codes strictly rising; an entry that is
not listed is the V 0, VAL 0 of R42. -/
abbrev MeterTable := List (Nat × Word64)

/-- The stored fields of STATUS (R22, R26). BUSY and XCHG are computed (R21, R26). -/
structure Status where
  /-- ERR -/
  err : ErrCode
  /-- PARTIAL -/
  partialResult : Bool
  /-- SEQ_STATE -/
  seq : SeqState
  /-- PHASE -/
  phase : Phase
  /-- CANCEL_PENDING -/
  cancelPending : Bool
  /-- FAIL_KIND -/
  failKind : ErrCode
deriving DecidableEq, Repr

/-- The configuration registers 0x01 to 0x0B (R22). -/
structure ConfigRegs where
  /-- CFG_ADDR -/
  addr : Byte
  /-- CFG_ASSET -/
  asset : Word32
  /-- CFG_POSID -/
  posId : Word64
  /-- CFG_POSLEN -/
  posLen : BitVec 4
  /-- CFG_POOLID -/
  poolId : Word16
  /-- CFG_T_READ -/
  tRead : Word32
  /-- CFG_T_REGSETTLE -/
  tRegSettle : Word32
  /-- CFG_T_XFERSETTLE -/
  tXferSettle : Word32
  /-- CFG_T_POLL -/
  tPoll : Word32
  /-- CFG_POLLS -/
  polls : Byte
  /-- CFG_MCAP -/
  mcap : Byte
deriving DecidableEq, Repr

/-- The operand registers 0x10 to 0x12 (R22). -/
structure OperandRegs where
  /-- OPND_VALUE -/
  value : Word64
  /-- OPND_BCD -/
  bcd : Word64
  /-- OPND_TXID -/
  txid : Word32
deriving DecidableEq, Repr

/-- The result registers 0x18 to 0x1B (R22). -/
structure ResultRegs where
  /-- RES_CRC -/
  crc : Word16
  /-- RES_BCD -/
  bcd : Word64
  /-- RES_VALUE -/
  value : Word64
  /-- RES_FRAME.ADDR -/
  frameAddr : Byte
  /-- RES_FRAME.CMD -/
  frameCmd : Byte
  /-- RES_FRAME.LEN -/
  frameLen : Byte
deriving DecidableEq, Repr

/-- The memories of R40 and the registers that count what they hold (R22). -/
structure Buffers where
  pbuf : Memory
  /-- PLEN -/
  plen : Byte
  txbuf : Memory
  /-- TXLEN -/
  txlen : BitVec 9
  rxbuf : Memory
  /-- RXLEN -/
  rxlen : BitVec 9
  keybuf : Memory
  mtab : MeterTable
  /-- MCOUNT -/
  mcount : Byte
deriving DecidableEq, Repr

/-- Three balances in cents: BAL_CASH, BAL_REST, BAL_NONR, or PRE_CASH, PRE_REST, PRE_NONR (R22). -/
structure Balance where
  cash : Word64
  rest : Word64
  nonr : Word64
deriving DecidableEq, Repr

/-- BAL_STAT (R22, R202). -/
structure BalanceStatus where
  lock : Byte
  aft : Byte
  valid : Bool
deriving DecidableEq, Repr

/-- The TransferRequest registers (R14, R22). -/
structure Request where
  /-- REQ_AMOUNT -/
  amount : Word64
  /-- REQ_TYPE, one of 0, 1, 2 -/
  type : TransferType
  /-- REQ_TXID -/
  txid : Word32
deriving DecidableEq, Repr

/-- SEQ_INFO (R22, R31). -/
structure SeqInfo where
  retryUsed : Bool
  toReg : Bool
  toXfer : Bool
  regReplied : Bool
  xferReplied : Bool
  pollsDone : Byte
deriving DecidableEq, Repr

/-- The ELAPSED_* registers (R22, R32). -/
structure Elapsed where
  reg : Word32
  regSettle : Word32
  xfer : Word32
  xferSettle : Word32
  verify : Word32
deriving DecidableEq, Repr

/-- The hidden state of R45; TIMER is readable at register 0x38. -/
structure ExchangeUnit where
  /-- TXPOS -/
  txPos : BitVec 9
  /-- XCHG_ACT -/
  xchgAct : Bool
  /-- OWNER -/
  owner : Owner
  /-- RX_OPEN -/
  rxOpen : Bool
  /-- TIMER -/
  timer : Word32
deriving DecidableEq, Repr

/-- The memories a host access names (R230, R41). -/
inductive MemSpace where
  | pbuf | txbuf | rxbuf | keybuf | mtab
deriving DecidableEq, Repr

/-- What an agent does to the CORE (R330). The last two are runs of channel events that carry one
whole frame over the wire (log 3). -/
inductive Event where
  /-- Host: ISSUE(W) (R220) -/
  | issue (w : Word32)
  /-- Host: WRITE(n, v) (R230) -/
  | write (n : BitVec 6) (v : Word64)
  /-- Host: READ(n) (R230) -/
  | read (n : BitVec 6)
  /-- Host: WRITEB(S, i, b) (R230) -/
  | writeB (m : MemSpace) (i : Nat) (b : Byte)
  /-- Host: READB(S, i) (R230) -/
  | readB (m : MemSpace) (i : Nat)
  /-- Channel: TX_ACCEPT (R221) -/
  | txAccept
  /-- Channel: RX_BYTE(b) (R222) -/
  | rxByte (b : Byte)
  /-- Channel: CHAN_ERR (R226) -/
  | chanErr
  /-- Time base: TICK (R242) -/
  | tick
  /-- Reset: RESET (R333) -/
  | reset
  /-- Channel: TX_ACCEPT for every byte that is left of the frame on offer -/
  | txFrame
  /-- Channel: RX_BYTE for every byte of a frame -/
  | rxFrame (bs : List Byte)
deriving DecidableEq, Repr

/-- A byte that crossed the wire (R60 item 4). -/
inductive WireByte where
  /-- from the CORE to the machine, taken by TX_ACCEPT -/
  | sent (b : Byte)
  /-- from the machine to the CORE, delivered by RX_BYTE, stored or lost (R222) -/
  | received (b : Byte)
deriving DecidableEq, Repr

/-- What a host read answered (R230). -/
inductive HostRead where
  /-- nothing read yet -/
  | nothing
  /-- READ: a register, 64 bits (R22) -/
  | register (v : Word64)
  /-- READB of a byte memory (R41) -/
  | byte (b : Byte)
  /-- READB of MTAB: V and VAL (R41) -/
  | meter (v : Bool) (val : Word64)
deriving DecidableEq, Repr

/-- No fault state exists: the CORE has no condition under which its rules give no meaning (R317).
So nothing raises a fault, which is safe: no step ends here. -/
inductive Fault
deriving DecidableEq, Repr

/-- Why a step has no meaning. -/
inductive Refusal where
  /-- Raised by an arm of `exec` for an instruction without a meaning yet. Safe: the model stops where
  the hardware goes on. No arm of this model raises it (R317: nothing is refused). -/
  | notModelled (mnemonic : String)
deriving DecidableEq, Repr

/-- The CORE's whole state, and no other (R20). -/
structure CoreState where
  /-- STATUS fields (R26). -/
  status : Status
  /-- The CFG_* registers (R22). -/
  cfg : ConfigRegs
  /-- The OPND_* registers (R22). -/
  opnd : OperandRegs
  /-- The RES_* registers (R22). -/
  res : ResultRegs
  /-- The memories of R40 with PLEN, TXLEN, RXLEN and MCOUNT (R22). -/
  buf : Buffers
  /-- BAL_CASH, BAL_REST, BAL_NONR (R204). -/
  bal : Balance
  /-- BAL_STAT (R202). -/
  balStat : BalanceStatus
  /-- PRE_CASH, PRE_REST, PRE_NONR (R250). -/
  pre : Balance
  /-- PRE_VALID (R22). -/
  preValid : Bool
  /-- REQ_AMOUNT, REQ_TYPE, REQ_TXID (R14). -/
  req : Request
  /-- TXID_LAST (R256). -/
  txidLast : Word32
  /-- SEQ_INFO (R31). -/
  seqInfo : SeqInfo
  /-- The ELAPSED_* registers (R32). -/
  elapsed : Elapsed
  /-- The hidden state of R45. -/
  exch : ExchangeUnit
deriving DecidableEq, Repr

/-- A state of the model: the CORE, its build-time parameters, and what surrounds it: the coming events,
the wire and the host's read port. Plain data. -/
structure State where
  /-- The CORE (R20). -/
  core : CoreState
  /-- The build-time parameters left open by R7; no step changes them (log 5). -/
  params : Params
  /-- The model's own: the events the agents present next, in order (R331; log 1). -/
  events : List Event
  /-- The wire (R60 item 4): every byte that crossed it so far, oldest first (log 8). -/
  wire : List WireByte
  /-- The model's own: what the last READ or READB answered (R230; log 7). -/
  hostRead : HostRead
deriving DecidableEq, Repr

/-- CoreState with another `status`. -/
def CoreState.withStatus (s : CoreState) (x : Status) : CoreState := { s with status := x }
/-- CoreState with another `cfg`. -/
def CoreState.withCfg (s : CoreState) (x : ConfigRegs) : CoreState := { s with cfg := x }
/-- CoreState with another `opnd`. -/
def CoreState.withOpnd (s : CoreState) (x : OperandRegs) : CoreState := { s with opnd := x }
/-- CoreState with another `res`. -/
def CoreState.withRes (s : CoreState) (x : ResultRegs) : CoreState := { s with res := x }
/-- CoreState with another `buf`. -/
def CoreState.withBuf (s : CoreState) (x : Buffers) : CoreState := { s with buf := x }
/-- CoreState with another `bal`. -/
def CoreState.withBal (s : CoreState) (x : Balance) : CoreState := { s with bal := x }
/-- CoreState with another `balStat`. -/
def CoreState.withBalStat (s : CoreState) (x : BalanceStatus) : CoreState := { s with balStat := x }
/-- CoreState with another `pre`. -/
def CoreState.withPre (s : CoreState) (x : Balance) : CoreState := { s with pre := x }
/-- CoreState with another `preValid`. -/
def CoreState.withPreValid (s : CoreState) (x : Bool) : CoreState := { s with preValid := x }
/-- CoreState with another `req`. -/
def CoreState.withReq (s : CoreState) (x : Request) : CoreState := { s with req := x }
/-- CoreState with another `txidLast`. -/
def CoreState.withTxidLast (s : CoreState) (x : Word32) : CoreState := { s with txidLast := x }
/-- CoreState with another `seqInfo`. -/
def CoreState.withSeqInfo (s : CoreState) (x : SeqInfo) : CoreState := { s with seqInfo := x }
/-- CoreState with another `elapsed`. -/
def CoreState.withElapsed (s : CoreState) (x : Elapsed) : CoreState := { s with elapsed := x }
/-- CoreState with another `exch`. -/
def CoreState.withExch (s : CoreState) (x : ExchangeUnit) : CoreState := { s with exch := x }

/-- State with another `core`. -/
def State.withCore (s : State) (x : CoreState) : State := { s with core := x }
/-- State with another `params`. -/
def State.withParams (s : State) (x : Params) : State := { s with params := x }
/-- State with another `events`. -/
def State.withEvents (s : State) (x : List Event) : State := { s with events := x }
/-- State with another `wire`. -/
def State.withWire (s : State) (x : List WireByte) : State := { s with wire := x }
/-- State with another `hostRead`. -/
def State.withHostRead (s : State) (x : HostRead) : State := { s with hostRead := x }

/-- STATUS after reset: 0 (R22, R333). -/
def Status.reset : Status :=
  { err := .ok, partialResult := false, seq := .idle, phase := .none, cancelPending := false,
    failKind := .ok }

/-- The configuration after reset (R22, R24). -/
def ConfigRegs.reset : ConfigRegs :=
  { addr := 0x00, asset := 0, posId := 0, posLen := 0, poolId := 0, tRead := 1000,
    tRegSettle := 1000, tXferSettle := 2000, tPoll := 2000, polls := 5, mcap := 15 }

/-- SEQ_INFO = 0: after reset (R22) and after AFT_START (R31). -/
def SeqInfo.clear : SeqInfo :=
  { retryUsed := false, toReg := false, toXfer := false, regReplied := false, xferReplied := false,
    pollsDone := 0 }

/-- ELAPSED_* = 0: after reset (R22) and after AFT_START (R32). -/
def Elapsed.clear : Elapsed := { reg := 0, regSettle := 0, xfer := 0, xferSettle := 0, verify := 0 }

/-- The CORE after reset: the values of R22, R24, R42 and R45 (R333). -/
def CoreState.reset : CoreState :=
  { status := .reset
    cfg := .reset
    opnd := { value := 0, bcd := 0, txid := 0 }
    res := { crc := 0, bcd := 0, value := 0, frameAddr := 0, frameCmd := 0, frameLen := 0 }
    buf := { pbuf := [], plen := 0, txbuf := [], txlen := 0, rxbuf := [], rxlen := 0, keybuf := [],
             mtab := [], mcount := 0 }
    bal := { cash := 0, rest := 0, nonr := 0 }
    balStat := { lock := 0, aft := 0, valid := false }
    pre := { cash := 0, rest := 0, nonr := 0 }
    preValid := false
    req := { amount := 0, type := .cashable, txid := 0 }
    txidLast := 0
    seqInfo := .clear
    elapsed := .clear
    exch := { txPos := 0, xchgAct := false, owner := .standalone, rxOpen := false, timer := 0 } }

/-- The machine right after power-on, which is a RESET (R333): nothing has crossed the wire, the host
has read nothing, no event is scheduled, and the open parameters have the defaults of R7. -/
def State.reset : State :=
  { core := .reset, params := .default, events := [], wire := [], hostRead := .nothing }

end Sys2Proof.Machine
end

