-- ==== Sys2Proof/Machine/Flags.lean ====
section
/-! DEFINITION. The codes of the enumerated fields and the words of the status registers: STATUS,
SEQ_INFO, BAL_STAT, RES_FRAME (rules R22, R26, R30, R31, R300). -/

namespace Sys2Proof.Machine

/-- The result codes of R300. -/
def ErrCode.code : ErrCode → BitVec 4
  | .ok => 0
  | .transportError => 1
  | .frameError => 2
  | .encodingError => 3
  | .responseTooShort => 4
  | .sequenceTimeout => 5
  | .digitError => 6
  | .illegalOp => 7
  | .busy => 8
  | .cancelled => 9

/-- The state codes of R30. -/
def SeqState.code : SeqState → BitVec 4
  | .idle => 0
  | .registering => 1
  | .awaitRegistrationSettle => 2
  | .transferring => 3
  | .awaitTransferSettle => 4
  | .verifyingBalance => 5
  | .done => 6
  | .doneUnconfirmed => 7
  | .failed => 8

/-- The phase codes of R26. -/
def Phase.code : Phase → BitVec 2
  | .none => 0
  | .tx => 1
  | .rx => 2
  | .wait => 3

/-- REQ_TYPE codes (R22). -/
def typeCode : TransferType → BitVec 2
  | .cashable => 0
  | .restricted => 1
  | .nonRestricted => 2

/-- SEQ_STATE is in {1, 2, 3, 4, 5} (R21). -/
def SeqState.isActive : SeqState → Bool
  | .registering | .awaitRegistrationSettle | .transferring | .awaitTransferSettle
  | .verifyingBalance => true
  | .idle | .done | .doneUnconfirmed | .failed => false

/-- SEQ_STATE is in {6, 7, 8} (R30). -/
def SeqState.isTerminal : SeqState → Bool
  | .done | .doneUnconfirmed | .failed => true
  | .idle | .registering | .awaitRegistrationSettle | .transferring | .awaitTransferSettle
  | .verifyingBalance => false

/-- The CORE is active (R21): a standalone exchange runs, or the sequencer is between Idle and a
terminal state. STATUS.BUSY reads this. -/
def CoreState.active (c : CoreState) : Bool := c.exch.xchgAct || c.status.seq.isActive

/-- A one-bit field. -/
def bit (b : Bool) : BitVec 1 := BitVec.ofBool b

/-- The STATUS word (R22): ERR[3:0], BUSY[4], PARTIAL[5], SEQ_STATE[11:8], PHASE[13:12],
CANCEL_PENDING[14], XCHG[15], FAIL_KIND[19:16]. -/
def CoreState.statusWord (c : CoreState) : Word64 :=
  (0#44 ++ c.status.failKind.code ++ bit c.exch.xchgAct ++ bit c.status.cancelPending
    ++ c.status.phase.code ++ c.status.seq.code ++ 0#2 ++ bit c.status.partialResult
    ++ bit c.active ++ c.status.err.code : BitVec 64)

/-- The SEQ_INFO word (R22): RETRY_USED[0], TO_REG[1], TO_XFER[2], REG_REPLIED[3],
XFER_REPLIED[4], POLLS_DONE[15:8]. -/
def SeqInfo.word (q : SeqInfo) : Word64 :=
  (0#48 ++ q.pollsDone ++ 0#3 ++ bit q.xferReplied ++ bit q.regReplied ++ bit q.toXfer
    ++ bit q.toReg ++ bit q.retryUsed : BitVec 64)

/-- The BAL_STAT word (R22): LOCK[7:0], AFT[15:8], VALID[16]. -/
def BalanceStatus.word (b : BalanceStatus) : Word64 :=
  (0#47 ++ bit b.valid ++ b.aft ++ b.lock : BitVec 64)

/-- The RES_FRAME word (R22): ADDR[7:0], CMD[15:8], LEN[23:16]. -/
def ResultRegs.frameWord (r : ResultRegs) : Word64 :=
  (0#40 ++ r.frameLen ++ r.frameCmd ++ r.frameAddr : BitVec 64)

end Sys2Proof.Machine
end

