-- ==== Sys2Proof/Machine/Ops.lean ====
section
/-! DEFINITION. The named operations over memories and registers: reading and writing the memories
(rules R11, R40, R41), ending an operation with a result code (`raise` and `finish`, R11), and the
start and the end of exchanges and sequences that several instructions and events share (R221, R260,
R261). The CORE has no exception entry and no return from one (R308): `raise` is all an error does. -/

namespace Sys2Proof.Machine

/-! Memories. -/

/-- `S[i]`: an index that is not listed reads 0x00 (R41, R42). -/
def Memory.read : Memory → Nat → Byte
  | [], _ => 0
  | (a, b) :: m, i => if a = i then b else Memory.read m i

/-- Replace the byte at an index, keeping the canonical form: a 0x00 is not listed. -/
def Memory.insert : Memory → Nat → Byte → Memory
  | [], i, b => if b = 0 then [] else [(i, b)]
  | (a, c) :: m, i, b =>
    if i < a then (if b = 0 then (a, c) :: m else (i, b) :: (a, c) :: m)
    else if i = a then (if b = 0 then m else (i, b) :: m)
    else (a, c) :: Memory.insert m i b

/-- `S[i] <- b`; a write beyond the size has no effect (R41). -/
def Memory.write (size : Nat) (m : Memory) (i : Nat) (b : Byte) : Memory :=
  if i < size then Memory.insert m i b else m

/-- `MemRead(S, i, n)` (R11). -/
def Memory.readRange (m : Memory) (i n : Nat) : List Byte :=
  (List.range n).map fun k => Memory.read m (i + k)

/-- `MemWrite(S, i, bs)` (R11). -/
def Memory.writeRange (size : Nat) (m : Memory) (i : Nat) : List Byte → Memory
  | [] => m
  | b :: bs => Memory.writeRange size (Memory.write size m i b) (i + 1) bs

/-- The canonical form above a bound: indices rise strictly from `lo`, stay below the size, and no
byte is 0x00. -/
def Memory.wfFrom (size : Nat) : Nat → Memory → Bool
  | _, [] => true
  | lo, (a, b) :: m => lo ≤ a && a < size && b != 0 && Memory.wfFrom size (a + 1) m

/-- The memory is in its one canonical form. -/
def Memory.wf (size : Nat) (m : Memory) : Bool := Memory.wfFrom size 0 m

/-- `MTAB[c]` if V = 1 (R44). -/
def MeterTable.find : MeterTable → Nat → Option Word64
  | [], _ => none
  | (a, v) :: t, c => if a = c then some v else MeterTable.find t c

/-- `MTAB[c] <- {V: 1, VAL: v}` (R160): a later duplicate overwrites (R44). -/
def MeterTable.set : MeterTable → Nat → Word64 → MeterTable
  | [], c, v => [(c, v)]
  | (a, w) :: t, c, v =>
    if c < a then (c, v) :: (a, w) :: t
    else if c = a then (c, v) :: t
    else (a, w) :: MeterTable.set t c v

/-- The canonical form of MTAB above a bound: codes rise strictly and stay below 256. -/
def MeterTable.wfFrom : Nat → MeterTable → Bool
  | _, [] => true
  | lo, (a, _) :: t => lo ≤ a && a < Config.mtabSize && MeterTable.wfFrom (a + 1) t

/-- The meter table is in its one canonical form. -/
def MeterTable.wf (t : MeterTable) : Bool := MeterTable.wfFrom 0 t

/-! Buffers. -/

/-- `MemRead(PBUF, 0, PLEN)`. -/
def CoreState.payload (c : CoreState) : List Byte := Memory.readRange c.buf.pbuf 0 c.buf.plen.toNat

/-- `MemRead(TXBUF, 0, TXLEN)`: the frame to transmit. -/
def CoreState.txFrame (c : CoreState) : List Byte := Memory.readRange c.buf.txbuf 0 c.buf.txlen.toNat

/-- `MemRead(RXBUF, 0, RXLEN)`: the response. -/
def CoreState.rxBytes (c : CoreState) : List Byte := Memory.readRange c.buf.rxbuf 0 c.buf.rxlen.toNat

/-- The registration key, KEYBUF[0..P_KEY_LEN) (R43, R180). -/
def CoreState.key (p : Params) (c : CoreState) : List Byte :=
  Memory.readRange c.buf.keybuf 0 p.keyLen.val

/-- A value as a result register holds it, P_VALUE_W bits wide (R7, R22). -/
def resultValue (p : Params) (v : Nat) : Word64 := BitVec.ofNat 64 (v % 2 ^ p.valueWidth.val)

/-- A frame becomes the frame to transmit: `MemWrite(TXBUF, 0, f); TXLEN <- len(f)`. Bytes of TXBUF
beyond it keep their values (R141). -/
def CoreState.loadTx (p : Params) (c : CoreState) (f : List Byte) : CoreState :=
  c.withBuf { c.buf with
    txbuf := Memory.writeRange p.frameMax.val c.buf.txbuf 0 f
    txlen := BitVec.ofNat 9 f.length }

/-! Ending a host operation. -/

/-- STATUS.ERR <- e. -/
def CoreState.setErr (c : CoreState) (e : ErrCode) : CoreState :=
  c.withStatus { c.status with err := e }

/-- `raise E` (R11): the operation ends, ERR is the code, and nothing else changes. -/
def CoreState.raise (c : CoreState) (e : ErrCode) : CoreState := c.setErr e

/-- `finish` (R11): the operation ends with ERR = OK. -/
def CoreState.finish (c : CoreState) : CoreState := c.setErr .ok

/-- A host operation other than NOP and AFT_CANCEL: Busy while the CORE is active, and otherwise its
own rule (R220, R303). -/
def hostOp (s : State) (rule : CoreState → CoreState) : Host.Outcome State Fault Refusal :=
  .next (s.withCore (if s.core.active then s.core.raise .busy else rule s.core))

/-! The end of a sequence. -/

/-- `FINISH(s)` (R260): the terminal state, the channel released, ERR the cause of a failure. -/
def CoreState.finishSeq (c : CoreState) (terminal : SeqState) : CoreState :=
  (c.withStatus { c.status with
      seq := terminal
      phase := .none
      cancelPending := false
      err := if terminal = .failed then c.status.failKind else .ok }).withExch
    { c.exch with rxOpen := false }

/-- `FAIL(kind)` (R261): FAIL_KIND, then FINISH(8). -/
def CoreState.fail (c : CoreState) (kind : ErrCode) : CoreState :=
  (c.withStatus { c.status with failKind := kind }).finishSeq .failed

/-! The start of an exchange. -/

/-- `END_WRITE()` (R221): the read attempt opens, unless a cancel of the sequence waited for the end
of the write. -/
def CoreState.endWrite (c : CoreState) : CoreState :=
  if c.exch.owner = .sequencer ∧ c.status.cancelPending = true then c.fail .cancelled
  else
    (c.withStatus { c.status with phase := .rx }).withExch
      { c.exch with rxOpen := true, timer := 0 }

/-- `START_EXCHANGE(owner)` (R221): the last response is discarded and the write phase begins; with
nothing to write it ends at once. -/
def CoreState.startExchange (c : CoreState) (owner : Owner) : CoreState :=
  let c := ((c.withExch { c.exch with owner := owner, txPos := 0 }).withBuf
    { c.buf with rxlen := 0 }).withStatus { c.status with phase := .tx }
  if c.buf.txlen = 0 then c.endWrite else c

/-- A 32-bit tick counter, saturating at 2^32 - 1 (R32, R223). -/
def satInc (t : Word32) : Word32 := if t = BitVec.allOnes 32 then t else t + 1

end Sys2Proof.Machine
end

