-- ==== Sys2Proof/WellFormed.lean ====
section
/-! DEFINITION. Which instructions have an encoding: the ARG domains of rule R82 and the field
widths of rules R88 to R93 (spec/30_encoding.md). -/

namespace Sys2Proof

/-- The ARG domain 1..8 of BCD_ENC and BCD_DEC (R82). -/
def byteLenOk (n : Byte) : Bool := 1 ≤ n.toNat && n.toNat ≤ Config.bcdMaxLen

/-- R88: a 20-byte key and a 4-byte posId. -/
def RegistrationFrame.wf (f : RegistrationFrame) : Bool :=
  f.registrationKey.length == Config.keyLen && f.posId.length == Config.posFieldLen

/-- R89: three amounts of at most ten digits and a 20-byte key. -/
def TransferFrame.wf (f : TransferFrame) : Bool :=
  f.cashable < Config.amountLimit && f.restricted < Config.amountLimit &&
  f.nonRestricted < Config.amountLimit && f.registrationKey.length == Config.keyLen

/-- R92: bytes 3..11, three 5-byte fields, and no more than RXBUF holds (R40). -/
def BalanceResponse.wf (r : BalanceResponse) : Bool :=
  r.header.length == 9 && r.cashable.length == Config.amountLen &&
  r.restricted.length == Config.amountLen && r.nonRestricted.length == Config.amountLen &&
  r.tail.length ≤ Config.frameMax - Config.balMin

/-- R93: an entry's code is nonzero and its value has 1 to 9 bytes. -/
def MeterItem.wf : MeterItem → Bool
  | .padding => true
  | .entry code _ value => code != 0 && 1 ≤ value.length && value.length ≤ Config.maxMeterBytes

/-- The bytes an item takes on the wire (R93). -/
def MeterItem.size : MeterItem → Nat
  | .padding => 1
  | .entry _ _ value => 3 + value.length

/-- R93 and R86: well-formed items whose bytes fit the one length byte. -/
def MeterResponse.wf (r : MeterResponse) : Bool :=
  r.items.all MeterItem.wf && (r.items.map MeterItem.size).sum ≤ 255

/-- The instruction has an encoding: its operands lie in the domains of R82 and R86 to R93. -/
def Instr.wf : Instr → Bool
  | .nop => true
  | .crc16 _ => true
  | .bcdEnc n => byteLenOk n
  | .bcdDec n => byteLenOk n
  | .frameBuild _ => true
  | .frameParse => true
  | .meterParse => true
  | .buildReg => true
  | .buildXfer _ => true
  | .buildBalq => true
  | .balParse => true
  | .xchg => true
  | .aftStart _ => true
  | .aftCancel => true
  | .aftClear => true
  | .wireAftRegistration f => f.wf
  | .wireAftTransfer f => f.wf
  | .wireBalanceQuery _ => true
  | .wireBalanceResponse r => r.wf
  | .wireMeterRead _ payload => payload.length ≤ 255
  | .wireMeterResponse r => r.wf

end Sys2Proof
end

