-- ==== Sys2Proof/Machine/Operands.lean ====
section
/-! DEFINITION. The operand forms of the host operations: the buffer CRC16 reads (R122), the digit
operand of BCD_DEC (R104), the posId field (R181), the amount fields (R184), and the parameter bytes a
transferType selects (R7, R183). -/

namespace Sys2Proof.Machine

/-- The source of CRC16: 0 PBUF[0..PLEN), 1 TXBUF[0..TXLEN), 2 RXBUF[0..RXLEN) (R122). -/
def CoreState.crcSource (c : CoreState) : CrcSource → List Byte
  | .pbuf => c.payload
  | .txbuf => c.txFrame
  | .rxbuf => c.rxBytes

/-- The ARG domain of BCD_ENC and BCD_DEC, 1..P_BCD_MAXLEN (R101, R104). -/
def byteLenLegal (p : Params) (n : Byte) : Bool := 1 ≤ n.toNat && n.toNat ≤ p.bcdMaxLen.val

/-- The byteLen operand of BCD_ENC and BCD_DEC (R101, R104). -/
def byteLenOperand (n : Byte) : Nat := n.toNat

/-- The bytes BCD_DEC reads: the low n bytes of OPND_BCD, most significant first (R104). -/
def CoreState.bcdOperand (c : CoreState) (n : Nat) : List Byte := lowBytesBE c.opnd.bcd n

/-- `POSFIELD()` (R181): the first four characters, padded on the right with P_POS_PAD. -/
def ConfigRegs.posField (p : Params) (g : ConfigRegs) : List Byte :=
  (List.range p.posFieldLen.val).map fun k =>
    if k < g.posLen.toNat then byteOf g.posId k else p.posPad.val

/-- The three amount fields: the amount stands in the one the type selects (R184). -/
def amountFields : TransferType → Nat → Nat × Nat × Nat
  | .cashable, amt => (amt, 0, 0)
  | .restricted, amt => (0, amt, 0)
  | .nonRestricted, amt => (0, 0, amt)

/-- `P_TYPE_BYTE[t]` (R7). -/
def typeByte (p : Params) : TransferType → Byte
  | .cashable => p.typeByteCash
  | .restricted => p.typeByteRest
  | .nonRestricted => p.typeByteNonr

/-- The field of a balance that a transferType names (R259). -/
def Balance.field (b : Balance) : TransferType → Word64
  | .cashable => b.cash
  | .restricted => b.rest
  | .nonRestricted => b.nonr

/-- The poolId bytes of 0x72: zero, or CFG_POOLID if P_POOL_PASSTHRU (R183, conflict C4). -/
def poolBytes (p : Params) (g : ConfigRegs) : List Byte :=
  if p.poolPassthru then le16 g.poolId else [0, 0]

end Sys2Proof.Machine
end

