-- ==== Sys2Proof/Machine/AftBuild.lean ====
section
/-! DEFINITION. The AFT command builder of spec/44_aft_build.md: BUILD_REG (R180), BUILD_XFER (R183),
BUILD_BALQ (R186), and the frames they share with the sequencer. -/

namespace Sys2Proof.Machine

/-- The 0x73 frame (R180). -/
def registrationFrame (p : Params) (c : CoreState) : List Byte :=
  buildFrame c.cfg.addr 0x73 ([p.regCode.val] ++ le32 c.cfg.asset ++ c.key p ++ c.cfg.posField p)

/-- The 0x72 payload for a type, an amount and a transaction id (R183). -/
def transferPayload (p : Params) (c : CoreState) (t : TransferType) (amt : Nat) (id : Word32) :
    List Byte :=
  let fld := amountFields t amt
  let tid := asciiOfId id
  [p.xferCode, p.xferIndex, typeByte p t]
    ++ bcdBytes fld.1 Config.amountLen ++ bcdBytes fld.2.1 Config.amountLen
    ++ bcdBytes fld.2.2 Config.amountLen
    ++ [p.xferFlags] ++ le32 c.cfg.asset ++ c.key p
    ++ [BitVec.ofNat 8 tid.length] ++ tid
    ++ [0x00, 0x00, 0x00, 0x00]
    ++ poolBytes p c.cfg
    ++ [0x00]

/-- The 0x72 frame (R183). -/
def transferFrame (p : Params) (c : CoreState) (t : TransferType) (amt : Nat) (id : Word32) :
    List Byte :=
  buildFrame c.cfg.addr 0x72 (transferPayload p c t amt id)

/-- The 0x74 query frame (R186). -/
def balanceQueryFrame (c : CoreState) : List Byte := buildFrame c.cfg.addr 0x74 []

/-- The rule of BUILD_REG (R180). -/
def buildRegRule (p : Params) (c : CoreState) : CoreState :=
  (c.loadTx p (registrationFrame p c)).finish

/-- BUILD_REG (R180). -/
def execBuildReg (s : State) : Host.Outcome State Fault Refusal :=
  hostOp s (buildRegRule s.params)

/-- The rule of BUILD_XFER (R183): an amount of more than ten digits is EncodingError. -/
def buildXferRule (p : Params) (t : TransferType) (c : CoreState) : CoreState :=
  if Config.amountLimit ≤ c.opnd.value.toNat then c.raise .encodingError
  else (c.loadTx p (transferFrame p c t c.opnd.value.toNat c.opnd.txid)).finish

/-- BUILD_XFER (R183). -/
def execBuildXfer (t : TransferType) (s : State) : Host.Outcome State Fault Refusal :=
  hostOp s (buildXferRule s.params t)

/-- The rule of BUILD_BALQ (R186). -/
def buildBalqRule (p : Params) (c : CoreState) : CoreState := (c.loadTx p (balanceQueryFrame c)).finish

/-- BUILD_BALQ (R186). -/
def execBuildBalq (s : State) : Host.Outcome State Fault Refusal :=
  hostOp s (buildBalqRule s.params)

end Sys2Proof.Machine
end

