-- ==== Sys2Proof/Machine/BalanceParse.lean ====
section
/-! DEFINITION. BAL_PARSE (R200 to R204, spec/45_balance.md): the balance response parser, shared by the
host operation and the sequencer's polls (R258). -/

namespace Sys2Proof.Machine

/-- The three amount fields of a response, each five bytes of digits (R92, R201). -/
def balanceFields (p : Params) (bs : List Byte) : Option Balance :=
  match bcdDecode (slice bs p.cashOff.val (p.cashOff.val + Config.amountLen)),
        bcdDecode (slice bs p.restOff.val (p.restOff.val + Config.amountLen)),
        bcdDecode (slice bs p.nonrOff.val (p.nonrOff.val + Config.amountLen)) with
  | some cash, some rest, some nonr =>
    some { cash := resultValue p cash, rest := resultValue p rest, nonr := resultValue p nonr }
  | _, _, _ => none

/-- The precondition of R200: at least P_BAL_MIN = 27 bytes that begin with CFG_ADDR and 0x74. -/
def balancePrefixOk (p : Params) (addr : Byte) (bs : List Byte) : Bool :=
  p.balMin.val ≤ bs.length && byteAt bs 0 == addr && byteAt bs 1 == 0x74

/-- The body of R200: BAL_* and BAL_STAT on success, the error code otherwise. STATUS is not
written here (R258). -/
def balanceBody (p : Params) (c : CoreState) : Except ErrCode CoreState :=
  if balancePrefixOk p c.cfg.addr c.rxBytes then
    match balanceFields p c.rxBytes with
    | some b => .ok ((c.withBal b).withBalStat
        { lock := byteAt c.rxBytes p.lockOff.val, aft := byteAt c.rxBytes p.aftOff.val, valid := true })
    | none => .error .digitError
  else .error .responseTooShort

/-- The rule of BAL_PARSE (R200). -/
def balParseRule (p : Params) (c : CoreState) : CoreState :=
  match balanceBody p c with
  | .ok c' => c'.finish
  | .error e => c.raise e

/-- BAL_PARSE (R200). -/
def execBalParse (s : State) : Host.Outcome State Fault Refusal :=
  hostOp s (balParseRule s.params)

end Sys2Proof.Machine
end

