-- ==== Sys2Proof/Machine/Codec.lean ====
section
/-! DEFINITION. The codec operations: CRC16 (R122, spec/41_crc.md), BCD_ENC (R101) and BCD_DEC (R104,
spec/40_bcd.md). -/

namespace Sys2Proof.Machine

/-- The rule of CRC16 (R122). -/
def crc16Rule (src : CrcSource) (c : CoreState) : CoreState :=
  (c.withRes { c.res with crc := crc16 (c.crcSource src) }).finish

/-- CRC16 (R122). -/
def execCrc16 (src : CrcSource) (s : State) : Host.Outcome State Fault Refusal :=
  hostOp s (crc16Rule src)

/-- The rule of BCD_ENC (R101). -/
def bcdEncRule (n : Nat) (c : CoreState) : CoreState :=
  match bcdEncode c.opnd.value.toNat n with
  | none => c.raise .encodingError
  | some bs => (c.withRes { c.res with bcd := word64OfBE bs }).finish

/-- BCD_ENC (R101). An ARG outside 1..8 is IllegalOp, before Busy (R81). -/
def execBcdEnc (byteLen : Byte) (s : State) : Host.Outcome State Fault Refusal :=
  if byteLenLegal s.params byteLen then hostOp s (bcdEncRule (byteLenOperand byteLen))
  else .next (s.withCore (s.core.raise .illegalOp))

/-- The rule of BCD_DEC (R104). -/
def bcdDecRule (p : Params) (n : Nat) (c : CoreState) : CoreState :=
  match bcdDecode (c.bcdOperand n) with
  | none => c.raise .digitError
  | some v => (c.withRes { c.res with value := resultValue p v }).finish

/-- BCD_DEC (R104). An ARG outside 1..8 is IllegalOp, before Busy (R81). -/
def execBcdDec (byteLen : Byte) (s : State) : Host.Outcome State Fault Refusal :=
  if byteLenLegal s.params byteLen then hostOp s (bcdDecRule s.params (byteLenOperand byteLen))
  else .next (s.withCore (s.core.raise .illegalOp))

end Sys2Proof.Machine
end

