-- ==== Sys2Proof/Machine/Sequencer.lean ====
section
/-! DEFINITION. The AFT sequencer of spec/47_sequencer.md: AFT_START (R250), AFT_CANCEL (R262),
AFT_CLEAR (R265), and the transitions that exchanges and ticks cause (R254 to R261). -/

namespace Sys2Proof.Machine

/-! The end of an exchange that the sequencer owns. -/

/-- SEQ_STATE + 1, as SETTLE uses it (R254): 1 to 2 and 3 to 4. In no other state is it called; there
it leaves the state as it is (log 14). -/
def SeqState.settled : SeqState → SeqState
  | .registering => .awaitRegistrationSettle
  | .transferring => .awaitTransferSettle
  | q => q

/-- A timed wait begins: TIMER 0, PHASE WAIT (R254, R258). -/
def CoreState.startWait (c : CoreState) : CoreState :=
  (c.withStatus { c.status with phase := .wait }).withExch { c.exch with timer := 0 }

/-- `SETTLE()` (R254). -/
def CoreState.settle (c : CoreState) : CoreState :=
  (c.withStatus { c.status with seq := c.status.seq.settled }).startWait

/-- SEQ_INFO records a reply of the current step (R254). -/
def CoreState.noteReply (c : CoreState) : CoreState :=
  c.withSeqInfo (if c.status.seq = .registering then { c.seqInfo with regReplied := true }
    else { c.seqInfo with xferReplied := true })

/-- SEQ_INFO records that the current step had no response after its retry (R254). -/
def CoreState.noteTimeout (c : CoreState) : CoreState :=
  c.withSeqInfo (if c.status.seq = .registering then { c.seqInfo with toReg := true }
    else { c.seqInfo with toXfer := true })

/-- `CONFIRMED()` (R259): the balance of the transferred type rose by exactly the amount. -/
def CoreState.confirmed (c : CoreState) : Bool :=
  let new := (c.bal.field c.req.type).toNat
  let old := (c.pre.field c.req.type).toNat
  c.preValid && old ≤ new && new - old == c.req.amount.toNat

/-- The rest of a poll, after its response was read or found unusable (R258). -/
def CoreState.pollDecide (c : CoreState) (ok : Bool) : CoreState :=
  if ok && c.confirmed then c.finishSeq .done
  else if c.cfg.polls.toNat ≤ c.seqInfo.pollsDone.toNat then c.finishSeq .doneUnconfirmed
  else c.startWait

/-- `POLL_END(outcome)` (R258). -/
def CoreState.pollEnd (p : Params) (c : CoreState) (outcome : ExchangeOutcome) : CoreState :=
  let c := c.withSeqInfo { c.seqInfo with pollsDone := c.seqInfo.pollsDone + 1 }
  match outcome, balanceBody p c with
  | .bytes, .ok c' => c'.pollDecide true
  | _, _ => c.pollDecide false

/-- The retries of the current step so far (R31). -/
def SeqInfo.retriesDone (q : SeqInfo) : Nat := if q.retryUsed then 1 else 0

/-- `SEQ_EXCHANGE_END(outcome)` (R254): a transport error fails the sequence; a response that parses
as a frame is a reply; anything else is no response, retried P_RETRY times. -/
def CoreState.seqExchangeEnd (p : Params) (c : CoreState) (outcome : ExchangeOutcome) : CoreState :=
  if outcome = .transport then c.fail .transportError
  else if c.status.seq = .verifyingBalance then c.pollEnd p outcome
  else if outcome = .bytes ∧ parseOk c.rxBytes = true then c.noteReply.settle
  else if c.seqInfo.retriesDone < p.retries.val then
    (c.withSeqInfo { c.seqInfo with retryUsed := true }).startExchange .sequencer
  else c.noteTimeout.settle

/-! The edges that a settle wait ends with. -/

/-- `ENTER_TRANSFERRING()` (R256). -/
def CoreState.enterTransferring (p : Params) (c : CoreState) : CoreState :=
  let id := c.txidLast + 1
  let c := (c.withTxidLast id).withReq { c.req with txid := id }
  let c := c.loadTx p (transferFrame p c c.req.type c.req.amount.toNat id)
  ((c.withSeqInfo { c.seqInfo with retryUsed := false }).withStatus
    { c.status with seq := .transferring }).startExchange .sequencer

/-- `ENTER_VERIFY()` (R257). -/
def CoreState.enterVerify (p : Params) (c : CoreState) : CoreState :=
  let c := (c.withSeqInfo { c.seqInfo with pollsDone := 0 }).loadTx p (balanceQueryFrame c)
  (c.withStatus { c.status with seq := .verifyingBalance }).startExchange .sequencer

/-! The host operations. -/

/-- The request is latched and the record of the last cycle cleared (R250). -/
def CoreState.latchRequest (c : CoreState) (t : TransferType) : CoreState :=
  (((c.withReq { amount := c.opnd.value, type := t, txid := 0 }).withSeqInfo .clear).withElapsed
    .clear).withStatus { c.status with cancelPending := false, failKind := .ok }

/-- The pre-transfer snapshot (R250, decision D22). -/
def CoreState.snapshot (c : CoreState) : CoreState :=
  (c.withPre c.bal).withPreValid c.balStat.valid

/-- No transaction id is left: the counter of P_TXID_W bits is at its end (R250). -/
def CoreState.idsExhausted (p : Params) (c : CoreState) : Bool :=
  2 ^ p.txidWidth.val ≤ c.txidLast.toNat + 1

/-- The rule of AFT_START (R250). -/
def aftStartRule (p : Params) (t : TransferType) (c : CoreState) : CoreState :=
  if c.status.seq ≠ .idle then c.raise .busy
  else
    let c := c.latchRequest t
    if Config.amountLimit ≤ c.req.amount.toNat ∨ c.idsExhausted p = true then
      (c.withStatus { c.status with seq := .failed, failKind := .encodingError }).raise .encodingError
    else
      let c := c.snapshot
      let c := c.loadTx p (registrationFrame p c)
      (c.withStatus { c.status with seq := .registering, err := .ok }).startExchange .sequencer

/-- AFT_START (R250). -/
def execAftStart (t : TransferType) (s : State) : Host.Outcome State Fault Refusal :=
  hostOp s (aftStartRule s.params t)

/-- The rule of AFT_CANCEL (R262): pending during a write, otherwise at once; no effect outside a
sequence. -/
def aftCancelRule (c : CoreState) : CoreState :=
  let c := c.setErr .ok
  if c.status.seq.isActive then
    if c.status.phase = .tx then c.withStatus { c.status with cancelPending := true }
    else c.fail .cancelled
  else c

/-- AFT_CANCEL (R262); it is accepted while the CORE is active (R220). -/
def execAftCancel (s : State) : Host.Outcome State Fault Refusal :=
  .next (s.withCore (aftCancelRule s.core))

/-- The rule of AFT_CLEAR (R265). -/
def aftClearRule (c : CoreState) : CoreState :=
  (if c.status.seq.isTerminal then
    c.withStatus { c.status with seq := .idle, failKind := .ok } else c).finish

/-- AFT_CLEAR (R265). -/
def execAftClear (s : State) : Host.Outcome State Fault Refusal :=
  hostOp s aftClearRule

end Sys2Proof.Machine
end

