-- ==== Sys2Proof/Machine/Exchange.lean ====
section
/-! DEFINITION. The exchange unit of spec/46_exchange.md: NOP (R224), XCHG (R225), and what the CORE does
on the events of the channel and of the time base (R221 to R227, R242). -/

namespace Sys2Proof.Machine

/-- `XCHG_END(outcome)` (R225). -/
def CoreState.xchgEnd (c : CoreState) (outcome : ExchangeOutcome) : CoreState :=
  (c.withExch { c.exch with xchgAct := false }).setErr
    (match outcome with
      | .bytes => .ok
      | .none => .sequenceTimeout
      | .transport => .transportError)

/-- `END_READ(outcome)` (R227). -/
def CoreState.endRead (p : Params) (c : CoreState) (outcome : ExchangeOutcome) : CoreState :=
  let c := (c.withExch { c.exch with rxOpen := false }).withStatus { c.status with phase := .none }
  match c.exch.owner with
  | .standalone => c.xchgEnd outcome
  | .sequencer => c.seqExchangeEnd p outcome

/-- TX_ACCEPT is enabled: a byte is on offer (R221, R330). -/
def CoreState.offering (c : CoreState) : Bool :=
  c.status.phase == .tx && c.exch.txPos < c.buf.txlen

/-- The byte on offer, TXBUF[TXPOS] (R221). -/
def CoreState.offered (c : CoreState) : Byte := Memory.read c.buf.txbuf c.exch.txPos.toNat

/-- TX_ACCEPT (R221), when it is enabled. -/
def CoreState.txAccept (c : CoreState) : CoreState :=
  let c := c.withExch { c.exch with txPos := c.exch.txPos + 1 }
  if c.exch.txPos = c.buf.txlen then c.endWrite else c

/-- The received byte is stored: `RXBUF[RXLEN] <- b; RXLEN <- RXLEN + 1` (R222). -/
def CoreState.storeRx (p : Params) (c : CoreState) (b : Byte) : CoreState :=
  c.withBuf { c.buf with
    rxbuf := Memory.write p.frameMax.val c.buf.rxbuf c.buf.rxlen.toNat b
    rxlen := c.buf.rxlen + 1 }

/-- RX_BYTE(b) (R222): lost unless a read attempt is open; the attempt ends with a complete frame or a
full buffer. -/
def CoreState.rxByte (p : Params) (c : CoreState) (b : Byte) : CoreState :=
  if c.exch.rxOpen then
    let c := c.storeRx p b
    if 3 ≤ c.buf.rxlen.toNat ∧ c.buf.rxlen.toNat = (Memory.read c.buf.rxbuf 2).toNat + 5 then
      c.endRead p .bytes
    else if c.buf.rxlen.toNat = p.frameMax.val then c.endRead p .bytes
    else c
  else c

/-- CHAN_ERR (R226). -/
def CoreState.chanErr (p : Params) (c : CoreState) : CoreState :=
  if c.status.phase = .tx ∨ c.exch.rxOpen = true then c.endRead p .transport else c

/-- A tick adds 1 to the ELAPSED register of the current state (R32, R242). -/
def Elapsed.tick (e : Elapsed) : SeqState → Elapsed
  | .registering => { e with reg := satInc e.reg }
  | .awaitRegistrationSettle => { e with regSettle := satInc e.regSettle }
  | .transferring => { e with xfer := satInc e.xfer }
  | .awaitTransferSettle => { e with xferSettle := satInc e.xferSettle }
  | .verifyingBalance => { e with verify := satInc e.verify }
  | .idle | .done | .doneUnconfirmed | .failed => e

/-- TIMER advances by one tick (R223, R242). -/
def CoreState.tickTimer (c : CoreState) : CoreState :=
  c.withExch { c.exch with timer := satInc c.exch.timer }

/-- The read-timeout step of a tick (R223). -/
def CoreState.tickRead (p : Params) (c : CoreState) : CoreState :=
  let c := c.tickTimer
  if c.cfg.tRead < c.exch.timer then c.endRead p (if c.buf.rxlen = 0 then .none else .bytes) else c

/-- The wait step of a tick (R242). -/
def CoreState.tickWait (p : Params) (c : CoreState) : CoreState :=
  let c := c.tickTimer
  if c.status.seq = .awaitRegistrationSettle ∧ c.cfg.tRegSettle < c.exch.timer then
    c.enterTransferring p
  else if c.status.seq = .awaitTransferSettle ∧ c.cfg.tXferSettle < c.exch.timer then
    c.enterVerify p
  else if c.status.seq = .verifyingBalance ∧ c.cfg.tPoll < c.exch.timer then
    c.startExchange .sequencer
  else c

/-- TICK (R242). -/
def CoreState.tick (p : Params) (c : CoreState) : CoreState :=
  let c := c.withElapsed (c.elapsed.tick c.status.seq)
  if c.exch.rxOpen then c.tickRead p
  else if c.status.phase = .wait then c.tickWait p
  else c

/-- NOP (R224); it is accepted while the CORE is active (R220). -/
def execNop (s : State) : Host.Outcome State Fault Refusal :=
  .next (s.withCore s.core.finish)

/-- The rule of XCHG at its issue (R225). -/
def xchgRule (c : CoreState) : CoreState :=
  ((c.withExch { c.exch with xchgAct := true }).setErr .ok).startExchange .standalone

/-- XCHG (R225). -/
def execXchg (s : State) : Host.Outcome State Fault Refusal :=
  hostOp s xchgRule

end Sys2Proof.Machine
end

