-- ==== Sys2Proof/Machine/FrameOps.lean ====
section
/-! DEFINITION. FRAME_BUILD (R141) and FRAME_PARSE (R143) of spec/42_frame.md. -/

namespace Sys2Proof.Machine

/-- The rule of FRAME_BUILD (R141). -/
def frameBuildRule (p : Params) (command : Byte) (c : CoreState) : CoreState :=
  (c.loadTx p (buildFrame c.cfg.addr command c.payload)).finish

/-- FRAME_BUILD (R141). -/
def execFrameBuild (command : Byte) (s : State) : Host.Outcome State Fault Refusal :=
  hostOp s (frameBuildRule s.params command)

/-- The rule of FRAME_PARSE (R143). -/
def frameParseRule (c : CoreState) : CoreState :=
  if parseOk c.rxBytes then
    (c.withRes { c.res with
      frameAddr := byteAt c.rxBytes 0
      frameCmd := byteAt c.rxBytes 1
      frameLen := byteAt c.rxBytes 2 }).finish
  else c.raise .frameError

/-- FRAME_PARSE (R143). -/
def execFrameParse (s : State) : Host.Outcome State Fault Refusal :=
  hostOp s frameParseRule

end Sys2Proof.Machine
end

