-- ==== Sys2Proof/Machine/Meter.lean ====
section
/-! DEFINITION. METER_PARSE (R160 to R166, spec/43_meter.md): the variable-count meter entries of a
response become the meter table. -/

namespace Sys2Proof.Machine

/-- The end of the parse region (R161): the payload's end if the frame is consistent, otherwise
everything received. -/
def meterRegionEnd (bs : List Byte) : Nat :=
  if parseOk bs then 3 + (byteAt bs 2).toNat else bs.length

/-- The loop of R160 over the bytes of the region that are left. `fuel` bounds the recursion,
`attempts` is how many entry attempts CFG_MCAP still allows. The result is the table and PARTIAL. -/
def meterScan (p : Params) : (fuel : Nat) → (region : List Byte) → (attempts : Nat) → MeterTable → MeterTable × Bool
  | _, [], _, t => (t, false)
  | 0, _ :: _, _, t => (t, true)
  | fuel + 1, code :: rest, attempts, t =>
    if code = 0 then meterScan p fuel rest attempts t
    else if attempts = 0 then (t, true)
    else
      match rest with
      | _ :: l :: value =>
        if l.toNat = 0 ∨ l.toNat > p.maxMeterBytes.val ∨ value.length < l.toNat then (t, true)
        else
          match bcdDecode (value.take l.toNat) with
          | none => (t, true)
          | some v =>
            meterScan p fuel (value.drop l.toNat) (attempts - 1)
              (MeterTable.set t code.toNat (resultValue p v))
      | _ => (t, true)

/-- The parse of a whole response of at least three bytes (R160). -/
def meterParse (p : Params) (cap : Nat) (bs : List Byte) : MeterTable × Bool :=
  let region := slice bs 3 (meterRegionEnd bs)
  meterScan p region.length region cap []

/-- MTAB, MCOUNT and STATUS.PARTIAL take a result; MCOUNT is the number of entries with V = 1. -/
def CoreState.setMeters (c : CoreState) (t : MeterTable) (partialResult : Bool) : CoreState :=
  (c.withBuf { c.buf with mtab := t, mcount := BitVec.ofNat 8 t.length }).withStatus
    { c.status with partialResult := partialResult }

/-- The rule of METER_PARSE (R160). The table is cleared before the precondition is tested. -/
def meterParseRule (p : Params) (c : CoreState) : CoreState :=
  if c.rxBytes.length < 3 then (c.setMeters [] false).raise .responseTooShort
  else
    let r := meterParse p c.cfg.mcap.toNat c.rxBytes
    (c.setMeters r.1 r.2).finish

/-- METER_PARSE (R160). -/
def execMeterParse (s : State) : Host.Outcome State Fault Refusal :=
  hostOp s (meterParseRule s.params)

/-- P_METER_SCALE(code) (R7, R163). -/
def meterScale (p : Params) (code : Byte) : Nat :=
  match p.meterScaleOf.find? (fun e => e.1 = code) with
  | some e => e.2
  | none => p.meterScale

/-- The reading a host reports for a code, `VAL / P_METER_SCALE(c)`, as an exact quotient (R163): the
numerator and the denominator. The CORE itself divides nothing. -/
def meterReading (p : Params) (t : MeterTable) (code : Byte) : Option (Nat × Nat) :=
  (MeterTable.find t code.toNat).map fun v => (v.toNat, meterScale p code)

end Sys2Proof.Machine
end

