-- ==== Sys2Proof/Decode.lean ====
section
/-! DEFINITION. The decoder and the encoder of spec/30_encoding.md: the 32-bit host operation word
(rules R80 to R83) and the frames of the wire rows (rules R86 to R93). Both are total; what is not an
instruction is rejected by name. -/

namespace Sys2Proof

/-- Where an instruction's bits stand: a host operation word (R80), a frame the CORE transmits, or a
frame it receives (R86). The direction tells the two rows with command byte 0x74, and the two with
0xAF, apart (log 6). -/
inductive Encoded where
  | word (w : Word32)
  | sent (bs : List Byte)
  | received (bs : List Byte)
deriving DecidableEq, Repr

/-- Why bits are no instruction. The first three are the illegal words of R81. -/
inductive DecodeError where
  /-- R81, check 1: RSV is not 0. -/
  | reservedNotZero
  /-- R81, check 2: OP is not in the table of R82. -/
  | unknownOp
  /-- R81, check 3: ARG is outside the domain of OP. -/
  | argOutOfDomain
  /-- Fewer bytes than the layout needs (R86, R92). -/
  | tooShort
  /-- The length byte does not agree with the bytes (R86), or a field's length with the layout. -/
  | badLength
  /-- A transmitted frame whose last two bytes are not its CRC (R86). -/
  | badCrc
  /-- A command byte that is no row of the table in this direction (R87). -/
  | unknownCommand
  /-- A byte the layout fixes has another value (R88 to R90). -/
  | badConstant
  /-- An amount field with a nibble above 9 (R103). -/
  | badDigit
  /-- A transaction id field that is not the decimal digits of a 32-bit id (R185). -/
  | badTransactionId
  /-- A meter entry that runs past the payload or has a length outside 1..9 (R93). -/
  | badMeterEntry
deriving DecidableEq, Repr

/-- W[7:0] (R80). -/
def opField (w : Word32) : Byte := w.extractLsb' 0 8
/-- W[15:8] (R80). -/
def argField (w : Word32) : Byte := w.extractLsb' 8 8
/-- W[31:16] (R80). -/
def rsvField (w : Word32) : Word16 := w.extractLsb' 16 16

/-- ARG domain {0} (R82). -/
def noArg (arg : Byte) (i : Instr) : Except DecodeError Instr :=
  if arg = 0 then .ok i else .error .argOutOfDomain

/-- ARG domain 0, 1, 2 of CRC16 (R82). -/
def sourceOfArg (arg : Byte) : Option CrcSource :=
  if arg = 0 then some .pbuf else if arg = 1 then some .txbuf else if arg = 2 then some .rxbuf else none

/-- ARG domain 0, 1, 2 of BUILD_XFER and AFT_START (R82). -/
def typeOfArg (arg : Byte) : Option TransferType :=
  if arg = 0 then some .cashable else if arg = 1 then some .restricted
  else if arg = 2 then some .nonRestricted else none

/-- The operation OP names, its ARG checked against its domain (R81 checks 2 and 3, R82). -/
def decodeOp (op arg : Byte) : Except DecodeError Instr :=
  match op.toNat with
  | 0x00 => noArg arg .nop
  | 0x01 => match sourceOfArg arg with
    | some src => .ok (.crc16 src)
    | none => .error .argOutOfDomain
  | 0x02 => if byteLenOk arg then .ok (.bcdEnc arg) else .error .argOutOfDomain
  | 0x03 => if byteLenOk arg then .ok (.bcdDec arg) else .error .argOutOfDomain
  | 0x04 => .ok (.frameBuild arg)
  | 0x05 => noArg arg .frameParse
  | 0x06 => noArg arg .meterParse
  | 0x07 => noArg arg .buildReg
  | 0x08 => match typeOfArg arg with
    | some t => .ok (.buildXfer t)
    | none => .error .argOutOfDomain
  | 0x09 => noArg arg .buildBalq
  | 0x0A => noArg arg .balParse
  | 0x10 => noArg arg .xchg
  | 0x20 => match typeOfArg arg with
    | some t => .ok (.aftStart t)
    | none => .error .argOutOfDomain
  | 0x21 => noArg arg .aftCancel
  | 0x22 => noArg arg .aftClear
  | _ => .error .unknownOp

/-- A host operation word, in the order of checks of R81: RSV, OP, ARG. -/
def decodeWord (w : Word32) : Except DecodeError Instr :=
  if rsvField w ≠ 0 then .error .reservedNotZero else decodeOp (opField w) (argField w)

/-- The 0x73 payload (R88). -/
def decodeRegistration (address : Byte) (p : List Byte) : Except DecodeError Instr :=
  if p.length ≠ 29 then .error .badLength
  else if byteAt p 0 ≠ Config.regCode then .error .badConstant
  else .ok (.wireAftRegistration
    { address := address
      assetNumber := ofLe32 (slice p 1 5)
      registrationKey := slice p 5 25
      posId := slice p 25 29 })

/-- The transaction id field: its ASCII decimal digits without a leading zero (R185). -/
def decodeId (bs : List Byte) : Option Word32 :=
  match bs.mapM digitOfAscii with
  | none => none
  | some ds =>
    let v := ofDigits ds
    if v < 2 ^ 32 ∧ digits v = ds then some (BitVec.ofNat 32 v) else none

/-- The 0x72 payload (R89). -/
def decodeTransfer (address : Byte) (p : List Byte) : Except DecodeError Instr :=
  let n := (byteAt p 43).toNat
  if p.length ≠ 51 + n then .error .badLength
  else if slice p (44 + n) (48 + n) ≠ [0, 0, 0, 0] ∨ byteAt p (50 + n) ≠ 0 then .error .badConstant
  else
    match bcdDecode (slice p 3 8), bcdDecode (slice p 8 13), bcdDecode (slice p 13 18) with
    | some cash, some rest, some nonr =>
      match decodeId (slice p 44 (44 + n)) with
      | some id => .ok (.wireAftTransfer
          { address := address
            transferCode := byteAt p 0
            transferIndex := byteAt p 1
            transferTypeByte := byteAt p 2
            cashable := cash
            restricted := rest
            nonRestricted := nonr
            transferFlags := byteAt p 18
            assetNumber := ofLe32 (slice p 19 23)
            registrationKey := slice p 23 43
            transactionId := id
            poolId := ofLe16 (byteAt p (48 + n)) (byteAt p (49 + n)) })
      | none => .error .badTransactionId
    | _, _, _ => .error .badDigit

/-- A frame the CORE transmits: R86's layout with its CRC, then the payload its command byte names
(R87 to R91). -/
def decodeSent (bs : List Byte) : Except DecodeError Instr :=
  match bs with
  | address :: command :: length :: rest =>
    if rest.length ≠ length.toNat + 2 then .error .badLength
    else
      let payload := rest.take length.toNat
      if rest.drop length.toNat ≠ le16 (crc16 (address :: command :: length :: payload)) then
        .error .badCrc
      else
        match command.toNat with
        | 0x72 => decodeTransfer address payload
        | 0x73 => decodeRegistration address payload
        | 0x74 => if payload = [] then .ok (.wireBalanceQuery address) else .error .badLength
        | 0xAF => .ok (.wireMeterRead address payload)
        | _ => .error .unknownCommand
  | _ => .error .tooShort

/-- A 0x74 response (R92): at least 27 bytes, no check of the length byte or the CRC. -/
def decodeBalance (bs : List Byte) : Except DecodeError Instr :=
  if bs.length < Config.balMin then .error .tooShort
  else if Config.frameMax < bs.length then .error .badLength
  else .ok (.wireBalanceResponse
    { address := byteAt bs 0
      lengthByte := byteAt bs 2
      header := slice bs 3 12
      cashable := slice bs 12 17
      restricted := slice bs 17 22
      nonRestricted := slice bs 22 27
      tail := bs.drop 27 })

/-- The items of a meter payload (R93); the first argument bounds the recursion. -/
def decodeItems : Nat → List Byte → Option (List MeterItem)
  | _, [] => some []
  | 0, _ :: _ => none
  | fuel + 1, code :: rest =>
    if code = 0 then (decodeItems fuel rest).map (MeterItem.padding :: ·)
    else
      match rest with
      | reserved :: l :: rest =>
        if 1 ≤ l.toNat ∧ l.toNat ≤ Config.maxMeterBytes ∧ l.toNat ≤ rest.length then
          (decodeItems fuel (rest.drop l.toNat)).map
            (MeterItem.entry code reserved (rest.take l.toNat) :: ·)
        else none
      | _ => none

/-- A 0xAF response (R93): a frame whose payload is a sequence of items. -/
def decodeMeter (bs : List Byte) : Except DecodeError Instr :=
  if ¬ parseOk bs then .error .badLength
  else
    let e := 3 + (byteAt bs 2).toNat
    match decodeItems bs.length (slice bs 3 e) with
    | some items => .ok (.wireMeterResponse
        { address := byteAt bs 0
          items := items
          crc := ofLe16 (byteAt bs e) (byteAt bs (e + 1)) })
    | none => .error .badMeterEntry

/-- A frame the CORE receives (R92, R93), named by its command byte. -/
def decodeReceived (bs : List Byte) : Except DecodeError Instr :=
  if bs.length < 2 then .error .tooShort
  else
    match (byteAt bs 1).toNat with
    | 0x74 => decodeBalance bs
    | 0xAF => decodeMeter bs
    | _ => .error .unknownCommand

/-- The decoder: total, on words and on frames. -/
def decode : Encoded → Except DecodeError Instr
  | .word w => decodeWord w
  | .sent bs => decodeSent bs
  | .received bs => decodeReceived bs

/-! The encoder, written from the same tables. -/

/-- The operation word OP | ARG << 8 (R80, R84). -/
def opWord (op arg : Byte) : Word32 := (0#16 ++ arg ++ op : BitVec 32)

/-- ARG of a CRC16 source (R82). -/
def CrcSource.arg : CrcSource → Byte
  | .pbuf => 0
  | .txbuf => 1
  | .rxbuf => 2

/-- ARG of a transferType (R82). -/
def TransferType.arg : TransferType → Byte
  | .cashable => 0
  | .restricted => 1
  | .nonRestricted => 2

/-- The 29 payload bytes of R88. -/
def RegistrationFrame.payload (f : RegistrationFrame) : List Byte :=
  [Config.regCode] ++ le32 f.assetNumber ++ f.registrationKey ++ f.posId

/-- The 51 + n payload bytes of R89. -/
def TransferFrame.payload (f : TransferFrame) : List Byte :=
  [f.transferCode, f.transferIndex, f.transferTypeByte]
    ++ bcdBytes f.cashable Config.amountLen ++ bcdBytes f.restricted Config.amountLen
    ++ bcdBytes f.nonRestricted Config.amountLen
    ++ [f.transferFlags] ++ le32 f.assetNumber ++ f.registrationKey
    ++ [BitVec.ofNat 8 (digits f.transactionId.toNat).length] ++ asciiOfId f.transactionId
    ++ [0, 0, 0, 0] ++ le16 f.poolId ++ [0]

/-- The bytes of a 0x74 response (R92). -/
def BalanceResponse.bytes (r : BalanceResponse) : List Byte :=
  [r.address, 0x74, r.lengthByte] ++ r.header ++ r.cashable ++ r.restricted ++ r.nonRestricted
    ++ r.tail

/-- The bytes of one meter item (R93). -/
def MeterItem.bytes : MeterItem → List Byte
  | .padding => [0]
  | .entry code reserved value => [code, reserved, BitVec.ofNat 8 value.length] ++ value

/-- The payload of a meter response (R93). -/
def MeterResponse.payload (r : MeterResponse) : List Byte := r.items.flatMap MeterItem.bytes

/-- The bytes of a 0xAF response (R86, R93). -/
def MeterResponse.bytes (r : MeterResponse) : List Byte :=
  frameBody r.address 0xAF r.payload ++ le16 r.crc

/-- The words or bytes of a well-formed instruction. -/
def encode : Instr → Encoded
  | .nop => .word (opWord 0x00 0)
  | .crc16 src => .word (opWord 0x01 src.arg)
  | .bcdEnc n => .word (opWord 0x02 n)
  | .bcdDec n => .word (opWord 0x03 n)
  | .frameBuild c => .word (opWord 0x04 c)
  | .frameParse => .word (opWord 0x05 0)
  | .meterParse => .word (opWord 0x06 0)
  | .buildReg => .word (opWord 0x07 0)
  | .buildXfer t => .word (opWord 0x08 t.arg)
  | .buildBalq => .word (opWord 0x09 0)
  | .balParse => .word (opWord 0x0A 0)
  | .xchg => .word (opWord 0x10 0)
  | .aftStart t => .word (opWord 0x20 t.arg)
  | .aftCancel => .word (opWord 0x21 0)
  | .aftClear => .word (opWord 0x22 0)
  | .wireAftRegistration f => .sent (buildFrame f.address 0x73 f.payload)
  | .wireAftTransfer f => .sent (buildFrame f.address 0x72 f.payload)
  | .wireBalanceQuery a => .sent (buildFrame a 0x74 [])
  | .wireBalanceResponse r => .received r.bytes
  | .wireMeterRead a p => .sent (buildFrame a 0xAF p)
  | .wireMeterResponse r => .received r.bytes

/-! The host's table words. -/

/-- The frame of a wire row whose command byte is `command`, every operand byte 0: address, key,
posId, amounts, id and the rest; the bytes the layout fixes, the length and the CRC are as R86 to R91
say (log 6). -/
def tableFrame (command : Byte) : List Byte :=
  match command.toNat with
  | 0x73 => buildFrame 0 0x73 ([Config.regCode] ++ List.replicate 28 0)
  | 0x72 => buildFrame 0 0x72 (List.replicate 43 0 ++ [1, 0x30] ++ List.replicate 7 0)
  | _ => buildFrame 0 command []

/-- Whether a table row of so many bits is a wire row: those give the command byte only. -/
def isWireRow (nbits : Nat) : Bool := nbits ≤ 8

/-- The instruction the decoder reads from a table row's word: 8 bits are the command byte of a
frame, 32 bits a host operation word. -/
def decodeTableWord (nbits w : Nat) : Option Instr :=
  (if isWireRow nbits then decodeSent (tableFrame (BitVec.ofNat 8 w))
   else decodeWord (BitVec.ofNat 32 w)).toOption

end Sys2Proof
end

