-- ==== Sys2Proof/Machine/Wire.lean ====
section
/-! DEFINITION. Bytes and whole frames on the wire (rules R60 item 4, R221, R222), and the meanings of
the wire rows: what the CORE does when such a frame crosses the wire, one TX_ACCEPT or one RX_BYTE a
byte with no other event in between (log 3). -/

namespace Sys2Proof.Machine

/-- The channel takes the byte on offer (R221). TX_ACCEPT is enabled only while a byte is on offer; a
scheduled one that is not enabled does not happen (log 2). -/
def State.acceptByte (s : State) : State :=
  if s.core.offering then
    (s.withWire (s.wire ++ [.sent s.core.offered])).withCore s.core.txAccept
  else s

/-- The channel delivers one byte (R222). -/
def State.deliverByte (s : State) (b : Byte) : State :=
  (s.withWire (s.wire ++ [.received b])).withCore (s.core.rxByte s.params b)

/-- So many TX_ACCEPT events in a row. -/
def State.acceptBytes : Nat → State → State
  | 0, s => s
  | n + 1, s => State.acceptBytes n s.acceptByte

/-- RX_BYTE for each byte in order. -/
def State.deliverBytes (s : State) (bs : List Byte) : State := bs.foldl State.deliverByte s

/-- The bytes of TXBUF that are still to be taken. -/
def CoreState.bytesLeft (c : CoreState) : Nat := c.buf.txlen.toNat - c.exch.txPos.toNat

/-- The CORE offers this whole frame: PHASE is TX, no byte of it is taken yet, and it is what TXBUF
holds (R221). -/
def CoreState.offersFrame (c : CoreState) (bs : List Byte) : Bool :=
  c.offering && c.exch.txPos == 0 && c.txFrame == bs

/-- The channel takes a whole frame, if that frame is on offer; otherwise no byte of it is on offer
and nothing happens (R221). -/
def State.takeFrame (s : State) (bs : List Byte) : State :=
  if s.core.offersFrame bs then State.acceptBytes bs.length s else s

/-- The bytes of an instruction that is a frame. -/
def wireBytes (i : Instr) : List Byte :=
  match encode i with
  | .word _ => []
  | .sent bs => bs
  | .received bs => bs

/-- WIRE_AFT_REGISTRATION_0x73 (R88): the channel takes this 0x73 frame from the CORE. -/
def execWireAftRegistration (f : RegistrationFrame) (s : State) : Host.Outcome State Fault Refusal :=
  .next (s.takeFrame (wireBytes (.wireAftRegistration f)))

/-- WIRE_AFT_TRANSFER_0x72 (R89): the channel takes this 0x72 frame from the CORE. -/
def execWireAftTransfer (f : TransferFrame) (s : State) : Host.Outcome State Fault Refusal :=
  .next (s.takeFrame (wireBytes (.wireAftTransfer f)))

/-- WIRE_BALANCE_QUERY_0x74 (R90): the channel takes this 0x74 query from the CORE. -/
def execWireBalanceQuery (address : Byte) (s : State) : Host.Outcome State Fault Refusal :=
  .next (s.takeFrame (wireBytes (.wireBalanceQuery address)))

/-- WIRE_BALANCE_RESPONSE_0x74 (R92): the channel delivers this 0x74 response to the CORE. Its fields
are read by BAL_PARSE, or by the poll that it ends (R200, R258). -/
def execWireBalanceResponse (r : BalanceResponse) (s : State) : Host.Outcome State Fault Refusal :=
  .next (s.deliverBytes (wireBytes (.wireBalanceResponse r)))

/-- WIRE_METER_READ_0xAF (R91): the channel takes this 0xAF request from the CORE. -/
def execWireMeterRead (address : Byte) (payload : List Byte) (s : State) :
    Host.Outcome State Fault Refusal :=
  .next (s.takeFrame (wireBytes (.wireMeterRead address payload)))

/-- WIRE_METER_RESPONSE_0xAF (R93): the channel delivers this 0xAF response to the CORE. Its items are
read by METER_PARSE (R160). -/
def execWireMeterResponse (r : MeterResponse) (s : State) : Host.Outcome State Fault Refusal :=
  .next (s.deliverBytes (wireBytes (.wireMeterResponse r)))

end Sys2Proof.Machine
end

