-- ==== Sys2Proof/Machine/Dispatch.lean ====
section
/-! DEFINITION. Which meaning runs each instruction: one arm per row of spec/opcode_table.json. -/

namespace Sys2Proof.Machine

def exec (i : Instr) (s : State) : Host.Outcome State Fault Refusal :=
  match i with
  | .nop => Sys2Proof.Machine.execNop s
  | .crc16 source => Sys2Proof.Machine.execCrc16 source s
  | .bcdEnc byteLen => Sys2Proof.Machine.execBcdEnc byteLen s
  | .bcdDec byteLen => Sys2Proof.Machine.execBcdDec byteLen s
  | .frameBuild command => Sys2Proof.Machine.execFrameBuild command s
  | .frameParse => Sys2Proof.Machine.execFrameParse s
  | .meterParse => Sys2Proof.Machine.execMeterParse s
  | .buildReg => Sys2Proof.Machine.execBuildReg s
  | .buildXfer t => Sys2Proof.Machine.execBuildXfer t s
  | .buildBalq => Sys2Proof.Machine.execBuildBalq s
  | .balParse => Sys2Proof.Machine.execBalParse s
  | .xchg => Sys2Proof.Machine.execXchg s
  | .aftStart t => Sys2Proof.Machine.execAftStart t s
  | .aftCancel => Sys2Proof.Machine.execAftCancel s
  | .aftClear => Sys2Proof.Machine.execAftClear s
  | .wireAftRegistration f => Sys2Proof.Machine.execWireAftRegistration f s
  | .wireAftTransfer f => Sys2Proof.Machine.execWireAftTransfer f s
  | .wireBalanceQuery address => Sys2Proof.Machine.execWireBalanceQuery address s
  | .wireBalanceResponse r => Sys2Proof.Machine.execWireBalanceResponse r s
  | .wireMeterRead address payload => Sys2Proof.Machine.execWireMeterRead address payload s
  | .wireMeterResponse r => Sys2Proof.Machine.execWireMeterResponse r s

end Sys2Proof.Machine
end

