-- ==== Sys2Proof/Machine/HostAccess.lean ====
section
/-! DEFINITION. The host's accesses: the register map of rule R22, its reads, its writes with the WARL
mappings of R25 and the lock of R23 (spec/10_state.md), and the memory accesses of R41 and R230. -/

namespace Sys2Proof.Machine

/-- The registers of R22. -/
inductive Reg where
  /-- STATUS, 0x00 -/
  | status
  /-- CFG_ADDR, 0x01 -/
  | cfgAddr
  /-- CFG_ASSET, 0x02 -/
  | cfgAsset
  /-- CFG_POSID, 0x03 -/
  | cfgPosid
  /-- CFG_POSLEN, 0x04 -/
  | cfgPoslen
  /-- CFG_POOLID, 0x05 -/
  | cfgPoolid
  /-- CFG_T_READ, 0x06 -/
  | cfgTRead
  /-- CFG_T_REGSETTLE, 0x07 -/
  | cfgTRegsettle
  /-- CFG_T_XFERSETTLE, 0x08 -/
  | cfgTXfersettle
  /-- CFG_T_POLL, 0x09 -/
  | cfgTPoll
  /-- CFG_POLLS, 0x0A -/
  | cfgPolls
  /-- CFG_MCAP, 0x0B -/
  | cfgMcap
  /-- PLEN, 0x0C -/
  | plen
  /-- TXLEN, 0x0D -/
  | txlen
  /-- RXLEN, 0x0E -/
  | rxlen
  /-- OPND_VALUE, 0x10 -/
  | opndValue
  /-- OPND_BCD, 0x11 -/
  | opndBcd
  /-- OPND_TXID, 0x12 -/
  | opndTxid
  /-- RES_CRC, 0x18 -/
  | resCrc
  /-- RES_BCD, 0x19 -/
  | resBcd
  /-- RES_VALUE, 0x1A -/
  | resValue
  /-- RES_FRAME, 0x1B -/
  | resFrame
  /-- MCOUNT, 0x1C -/
  | mcount
  /-- BAL_CASH, 0x20 -/
  | balCash
  /-- BAL_REST, 0x21 -/
  | balRest
  /-- BAL_NONR, 0x22 -/
  | balNonr
  /-- BAL_STAT, 0x23 -/
  | balStat
  /-- PRE_CASH, 0x24 -/
  | preCash
  /-- PRE_REST, 0x25 -/
  | preRest
  /-- PRE_NONR, 0x26 -/
  | preNonr
  /-- PRE_VALID, 0x27 -/
  | preValid
  /-- REQ_AMOUNT, 0x28 -/
  | reqAmount
  /-- REQ_TYPE, 0x29 -/
  | reqType
  /-- REQ_TXID, 0x2A -/
  | reqTxid
  /-- TXID_LAST, 0x2B -/
  | txidLast
  /-- SEQ_INFO, 0x2C -/
  | seqInfo
  /-- ELAPSED_REG, 0x30 -/
  | elapsedReg
  /-- ELAPSED_REGSETTLE, 0x31 -/
  | elapsedRegsettle
  /-- ELAPSED_XFER, 0x32 -/
  | elapsedXfer
  /-- ELAPSED_XFERSETTLE, 0x33 -/
  | elapsedXfersettle
  /-- ELAPSED_VERIFY, 0x34 -/
  | elapsedVerify
  /-- TIMER, 0x38 -/
  | timer
deriving DecidableEq, Repr

/-- The register a number names; a number R22 leaves out names none. -/
def Reg.ofNumber (n : BitVec 6) : Option Reg :=
  match n.toNat with
  | 0x00 => some .status
  | 0x01 => some .cfgAddr
  | 0x02 => some .cfgAsset
  | 0x03 => some .cfgPosid
  | 0x04 => some .cfgPoslen
  | 0x05 => some .cfgPoolid
  | 0x06 => some .cfgTRead
  | 0x07 => some .cfgTRegsettle
  | 0x08 => some .cfgTXfersettle
  | 0x09 => some .cfgTPoll
  | 0x0A => some .cfgPolls
  | 0x0B => some .cfgMcap
  | 0x0C => some .plen
  | 0x0D => some .txlen
  | 0x0E => some .rxlen
  | 0x10 => some .opndValue
  | 0x11 => some .opndBcd
  | 0x12 => some .opndTxid
  | 0x18 => some .resCrc
  | 0x19 => some .resBcd
  | 0x1A => some .resValue
  | 0x1B => some .resFrame
  | 0x1C => some .mcount
  | 0x20 => some .balCash
  | 0x21 => some .balRest
  | 0x22 => some .balNonr
  | 0x23 => some .balStat
  | 0x24 => some .preCash
  | 0x25 => some .preRest
  | 0x26 => some .preNonr
  | 0x27 => some .preValid
  | 0x28 => some .reqAmount
  | 0x29 => some .reqType
  | 0x2A => some .reqTxid
  | 0x2B => some .txidLast
  | 0x2C => some .seqInfo
  | 0x30 => some .elapsedReg
  | 0x31 => some .elapsedRegsettle
  | 0x32 => some .elapsedXfer
  | 0x33 => some .elapsedXfersettle
  | 0x34 => some .elapsedVerify
  | 0x38 => some .timer
  | _ => none

/-- The 64 bits a read of the register gives (R22). -/
def Reg.value (c : CoreState) : Reg → Word64
  | .status => c.statusWord
  | .cfgAddr => c.cfg.addr.setWidth 64
  | .cfgAsset => c.cfg.asset.setWidth 64
  | .cfgPosid => c.cfg.posId
  | .cfgPoslen => c.cfg.posLen.setWidth 64
  | .cfgPoolid => c.cfg.poolId.setWidth 64
  | .cfgTRead => c.cfg.tRead.setWidth 64
  | .cfgTRegsettle => c.cfg.tRegSettle.setWidth 64
  | .cfgTXfersettle => c.cfg.tXferSettle.setWidth 64
  | .cfgTPoll => c.cfg.tPoll.setWidth 64
  | .cfgPolls => c.cfg.polls.setWidth 64
  | .cfgMcap => c.cfg.mcap.setWidth 64
  | .plen => c.buf.plen.setWidth 64
  | .txlen => c.buf.txlen.setWidth 64
  | .rxlen => c.buf.rxlen.setWidth 64
  | .opndValue => c.opnd.value
  | .opndBcd => c.opnd.bcd
  | .opndTxid => c.opnd.txid.setWidth 64
  | .resCrc => c.res.crc.setWidth 64
  | .resBcd => c.res.bcd
  | .resValue => c.res.value
  | .resFrame => c.res.frameWord
  | .mcount => c.buf.mcount.setWidth 64
  | .balCash => c.bal.cash
  | .balRest => c.bal.rest
  | .balNonr => c.bal.nonr
  | .balStat => c.balStat.word
  | .preCash => c.pre.cash
  | .preRest => c.pre.rest
  | .preNonr => c.pre.nonr
  | .preValid => (bit c.preValid).setWidth 64
  | .reqAmount => c.req.amount
  | .reqType => (typeCode c.req.type).setWidth 64
  | .reqTxid => c.req.txid.setWidth 64
  | .txidLast => c.txidLast.setWidth 64
  | .seqInfo => c.seqInfo.word
  | .elapsedReg => c.elapsed.reg.setWidth 64
  | .elapsedRegsettle => c.elapsed.regSettle.setWidth 64
  | .elapsedXfer => c.elapsed.xfer.setWidth 64
  | .elapsedXfersettle => c.elapsed.xferSettle.setWidth 64
  | .elapsedVerify => c.elapsed.verify.setWidth 64
  | .timer => c.exch.timer.setWidth 64

/-- READ(n) (R230): an unassigned number reads 0 (R22). -/
def CoreState.readReg (c : CoreState) (n : BitVec 6) : Word64 :=
  match Reg.ofNumber n with
  | some r => r.value c
  | none => 0

/-- CFG_POSLEN stores min(v[3:0], 8) (R25). -/
def legalPosLen (v : Word64) : BitVec 4 := if 8 < v.toNat % 16 then 8 else v.setWidth 4

/-- CFG_POLLS and CFG_MCAP store v[7:0], or 1 for 0 (R25). -/
def legalCount (v : Word64) : Byte := if v.toNat % 256 = 0 then 1 else v.setWidth 8

/-- RXLEN stores min(v[8:0], 260) (R25). -/
def legalRxlen (v : Word64) : BitVec 9 := if 260 < v.toNat % 512 then 260 else v.setWidth 9

/-- What a write of v stores in a RW or WARL register; a write of a RO register has no effect (R22). -/
def Reg.store (c : CoreState) (v : Word64) : Reg → CoreState
  | .status => c
  | .cfgAddr => c.withCfg { c.cfg with addr := v.setWidth 8 }
  | .cfgAsset => c.withCfg { c.cfg with asset := v.setWidth 32 }
  | .cfgPosid => c.withCfg { c.cfg with posId := v }
  | .cfgPoslen => c.withCfg { c.cfg with posLen := legalPosLen v }
  | .cfgPoolid => c.withCfg { c.cfg with poolId := v.setWidth 16 }
  | .cfgTRead => c.withCfg { c.cfg with tRead := v.setWidth 32 }
  | .cfgTRegsettle => c.withCfg { c.cfg with tRegSettle := v.setWidth 32 }
  | .cfgTXfersettle => c.withCfg { c.cfg with tXferSettle := v.setWidth 32 }
  | .cfgTPoll => c.withCfg { c.cfg with tPoll := v.setWidth 32 }
  | .cfgPolls => c.withCfg { c.cfg with polls := legalCount v }
  | .cfgMcap => c.withCfg { c.cfg with mcap := legalCount v }
  | .plen => c.withBuf { c.buf with plen := v.setWidth 8 }
  | .txlen => c
  | .rxlen => c.withBuf { c.buf with rxlen := legalRxlen v }
  | .opndValue => c.withOpnd { c.opnd with value := v }
  | .opndBcd => c.withOpnd { c.opnd with bcd := v }
  | .opndTxid => c.withOpnd { c.opnd with txid := v.setWidth 32 }
  | .resCrc => c
  | .resBcd => c
  | .resValue => c
  | .resFrame => c
  | .mcount => c
  | .balCash => c
  | .balRest => c
  | .balNonr => c
  | .balStat => c
  | .preCash => c
  | .preRest => c
  | .preNonr => c
  | .preValid => c
  | .reqAmount => c
  | .reqType => c
  | .reqTxid => c
  | .txidLast => c
  | .seqInfo => c
  | .elapsedReg => c
  | .elapsedRegsettle => c
  | .elapsedXfer => c
  | .elapsedXfersettle => c
  | .elapsedVerify => c
  | .timer => c

/-- WRITE(n, v) (R230): no effect while the CORE is active (R23) or on an unassigned number (R22). -/
def CoreState.writeReg (c : CoreState) (n : BitVec 6) (v : Word64) : CoreState :=
  if c.active then c
  else
    match Reg.ofNumber n with
    | some r => r.store c v
    | none => c

/-- READB(S, i) (R230): beyond the size 0x00, or the entry V 0, VAL 0 (R41). -/
def CoreState.readMem (c : CoreState) (m : MemSpace) (i : Nat) : HostRead :=
  match m with
  | .pbuf => .byte (Memory.read c.buf.pbuf i)
  | .txbuf => .byte (Memory.read c.buf.txbuf i)
  | .rxbuf => .byte (Memory.read c.buf.rxbuf i)
  | .keybuf => .byte (Memory.read c.buf.keybuf i)
  | .mtab =>
    match MeterTable.find c.buf.mtab i with
    | some v => .meter true v
    | none => .meter false 0

/-- WRITEB(S, i, b) (R230): PBUF, RXBUF and KEYBUF while the CORE is not active, inside the size;
everything else has no effect (R40, R41). -/
def CoreState.writeMem (p : Params) (c : CoreState) (m : MemSpace) (i : Nat) (b : Byte) : CoreState :=
  if c.active then c
  else
    match m with
    | .pbuf => c.withBuf { c.buf with pbuf := Memory.write p.pbufSize.val c.buf.pbuf i b }
    | .rxbuf => c.withBuf { c.buf with rxbuf := Memory.write p.frameMax.val c.buf.rxbuf i b }
    | .keybuf => c.withBuf { c.buf with keybuf := Memory.write p.keyLen.val c.buf.keybuf i b }
    | .txbuf => c
    | .mtab => c

/-- The milliseconds that a host reads from a tick count, TIMER or an ELAPSED register: each tick stands
for P_TICK (R312). The CORE itself knows ticks only. -/
def ticksToMs (p : Params) (ticks : Word32) : Nat := ticks.toNat * p.tickMs.val

end Sys2Proof.Machine
end

