-- ==== Sys2Proof/Machine/Fetch.lean ====
section
/-! DEFINITION. Fetching: the next event of the schedule, the instruction it presents if it presents
one, and the CORE's reaction to the events that present none (rules R220, R230, R330, R331). -/

namespace Sys2Proof.Machine

/-- What the next event is: an instruction to run, or a reaction that is already complete. -/
inductive Fetched where
  | instr (i : Instr) (s : State)
  | reaction (s : State)
deriving DecidableEq, Repr

/-- ISSUE(W) (R220): an illegal word raises IllegalOp (R301), any other is its instruction. -/
def fetchWord (w : Word32) (s : State) : Fetched :=
  match decodeWord w with
  | .ok i => .instr i s
  | .error _ => .reaction (s.withCore (s.core.raise .illegalOp))

/-- The channel takes what is left of the frame on offer. If it is a whole frame of a wire row, that
is the instruction; any other is taken byte by byte. -/
def fetchSent (s : State) : Fetched :=
  if s.core.offersFrame s.core.txFrame then
    match decodeSent s.core.txFrame with
    | .ok i => .instr i s
    | .error _ => .reaction (State.acceptBytes s.core.bytesLeft s)
  else .reaction (State.acceptBytes s.core.bytesLeft s)

/-- The channel delivers a frame. If it is one of a wire row, that is the instruction; any other is
delivered byte by byte. -/
def fetchReceived (bs : List Byte) (s : State) : Fetched :=
  match decodeReceived bs with
  | .ok i => .instr i s
  | .error _ => .reaction (s.deliverBytes bs)

/-- The next event is presented to the CORE. -/
def fetchEvent (e : Event) (s : State) : Fetched :=
  match e with
  | .issue w => fetchWord w s
  | .write n v => .reaction (s.withCore (s.core.writeReg n v))
  | .read n => .reaction (s.withHostRead (.register (s.core.readReg n)))
  | .writeB m i b => .reaction (s.withCore (s.core.writeMem s.params m i b))
  | .readB m i => .reaction (s.withHostRead (s.core.readMem m i))
  | .txAccept => .reaction s.acceptByte
  | .rxByte b => .reaction (s.deliverByte b)
  | .chanErr => .reaction (s.withCore (s.core.chanErr s.params))
  | .tick => .reaction (s.withCore (s.core.tick s.params))
  | .reset => .reaction (s.withCore .reset)
  | .txFrame => fetchSent s
  | .rxFrame bs => fetchReceived bs s

/-- The next event of the schedule, taken off it. With none scheduled no agent acts, and the CORE holds
its state (R316; log 1). -/
def fetch (s : State) : Fetched :=
  match s.events with
  | [] => .reaction s
  | e :: rest => fetchEvent e (s.withEvents rest)

/-- A host operation word at the head of the schedule. -/
def scheduleWord (w : Word32) (s : State) : State := s.withEvents (.issue w :: s.events)

/-- A frame on offer, by a standalone exchange whose write phase has just begun (R221, R225), and the
channel about to take it. -/
def scheduleFrame (bs : List Byte) (s : State) : State :=
  let c := s.core.loadTx s.params bs
  let c := c.withStatus { c.status with phase := .tx }
  let c := c.withExch { c.exch with txPos := 0, xchgAct := true, owner := .standalone }
  (s.withCore c).withEvents (.txFrame :: s.events)

/-- A table row's word where the next step fetches (log 4). -/
def placeTableWord (s : State) (nbits w : Nat) : State :=
  if isWireRow nbits then scheduleFrame (tableFrame (BitVec.ofNat 8 w)) s
  else scheduleWord (BitVec.ofNat 32 w) s

end Sys2Proof.Machine
end

