-- ==== Sys2Proof/Machine/Step.lean ====
section
/-! DEFINITION. One step: one event of the schedule with the CORE's complete reaction (R331), and where
a table row's word is put so that the next step runs it. -/

namespace Sys2Proof.Machine

/-- One step of the machine (R331). -/
def step (s : State) : Host.Outcome State Fault Refusal :=
  match fetch s with
  | .instr i s' => exec i s'
  | .reaction s' => .next s'

/-- The instruction of a table row stored where the next step fetches (log 4). -/
def State.withFetchWord (s : State) (nbits w : Nat) : State := placeTableWord s nbits w

end Sys2Proof.Machine
end

