-- ==== Sys2Proof/Safety.lean ====
section
/-! DEFINITION. What counts as a safe state and a safe step, in the terms the statements use: the
canonical form of the memories (R40 to R44), the legal ranges of the writable registers (R22, R25), the
relation of SEQ_STATE, PHASE and the exchange unit (R21, R221 to R228, R241), FAIL_KIND (R304), the
edges of the sequencer (R240), and the frame invariants of R147. -/

namespace Sys2Proof.Machine

/-- Every byte memory is in its canonical form, within its size (R40, R42). -/
abbrev MemoriesCanonical (c : CoreState) : Prop :=
  Memory.wf Config.pbufSize c.buf.pbuf = true ∧ Memory.wf Config.frameMax c.buf.txbuf = true ∧
  Memory.wf Config.frameMax c.buf.rxbuf = true ∧ Memory.wf Config.keyLen c.buf.keybuf = true

/-- MTAB is in its canonical form, holds no entry for code 0x00 (R166), and MCOUNT is the number of its
entries with V = 1 (R44). -/
abbrev MetersCounted (c : CoreState) : Prop :=
  MeterTable.wf c.buf.mtab = true ∧ MeterTable.find c.buf.mtab 0 = none ∧
  c.buf.mcount.toNat = c.buf.mtab.length

/-- The WARL registers hold legal values (R22, R25), and TXLEN is at most 260. -/
abbrev RegistersLegal (c : CoreState) : Prop :=
  c.cfg.posLen.toNat ≤ 8 ∧ 1 ≤ c.cfg.polls.toNat ∧ 1 ≤ c.cfg.mcap.toNat ∧
  c.buf.rxlen.toNat ≤ 260 ∧ c.buf.txlen.toNat ≤ 260

/-- SEQ_STATE, PHASE, OWNER and the exchange unit agree: a read attempt is open exactly in PHASE RX; a
byte is on offer throughout PHASE TX, with RXLEN 0; PHASE is NONE exactly while the CORE is not active;
a standalone exchange and a sequence exclude each other and own their exchange; the settle states
wait; a cancel is pending only in the write phase of a sequence; an open read attempt has room. -/
abbrev ControlCoherent (c : CoreState) : Prop :=
  (c.exch.rxOpen = true ↔ c.status.phase = .rx) ∧
  (c.status.phase = .tx → c.exch.txPos.toNat < c.buf.txlen.toNat ∧ c.buf.rxlen = 0) ∧
  (c.status.phase = .none ↔ c.active = false) ∧
  (c.exch.xchgAct = true → c.status.seq.isActive = false ∧ c.exch.owner = .standalone) ∧
  (c.status.seq.isActive = true → c.exch.owner = .sequencer) ∧
  (c.status.phase = .wait → c.status.seq = .awaitRegistrationSettle ∨
    c.status.seq = .awaitTransferSettle ∨ c.status.seq = .verifyingBalance) ∧
  (c.status.seq = .awaitRegistrationSettle ∨ c.status.seq = .awaitTransferSettle →
    c.status.phase = .wait) ∧
  (c.status.cancelPending = true → c.status.seq.isActive = true ∧ c.status.phase = .tx) ∧
  (c.exch.rxOpen = true → c.buf.rxlen.toNat < 260)

/-- FAIL_KIND is TransportError, EncodingError or Cancelled in Failed, and 0 elsewhere (R304). -/
abbrev FailKindTruthful (c : CoreState) : Prop :=
  (c.status.seq = .failed → c.status.failKind = .transportError ∨
    c.status.failKind = .encodingError ∨ c.status.failKind = .cancelled) ∧
  (c.status.seq ≠ .failed → c.status.failKind = .ok)

/-- Before the transfer's id is taken, the id counter has room for it (R250, R256). -/
abbrev IdRoom (c : CoreState) : Prop :=
  c.status.seq = .registering ∨ c.status.seq = .awaitRegistrationSettle →
    c.txidLast ≠ BitVec.allOnes 32

/-- The edges of R240 between different states, without RESET. -/
def SeqEdge : SeqState → SeqState → Bool
  | .idle, .registering => true
  | .idle, .failed => true
  | .registering, .awaitRegistrationSettle => true
  | .awaitRegistrationSettle, .transferring => true
  | .transferring, .awaitTransferSettle => true
  | .awaitTransferSettle, .verifyingBalance => true
  | .verifyingBalance, .done => true
  | .verifyingBalance, .doneUnconfirmed => true
  | .registering, .failed => true
  | .awaitRegistrationSettle, .failed => true
  | .transferring, .failed => true
  | .awaitTransferSettle, .failed => true
  | .verifyingBalance, .failed => true
  | .done, .idle => true
  | .doneUnconfirmed, .idle => true
  | .failed, .idle => true
  | _, _ => false

/-- The invariants of R147 for a frame: byte 0 the address, byte 2 the payload byte count, and the last
two bytes the CRC of the rest, low byte first. -/
abbrev FrameInvariants (address : Byte) (f : List Byte) : Prop :=
  5 ≤ f.length ∧ byteAt f 0 = address ∧ (byteAt f 2).toNat = f.length - 5 ∧
  f.drop (f.length - 2) = le16 (crc16 (f.take (f.length - 2)))

/-- An instruction that is a host operation (R82). -/
def isHostOp : Instr → Bool
  | .wireAftRegistration _ | .wireAftTransfer _ | .wireBalanceQuery _ | .wireBalanceResponse _
  | .wireMeterRead _ _ | .wireMeterResponse _ => false
  | _ => true

/-- The host operations that are accepted while the CORE is active (R220). -/
def acceptedWhileActive : Instr → Bool
  | .nop | .aftCancel => true
  | _ => false

/-- A frame row that the CORE transmits. -/
def isSentFrame : Instr → Bool
  | .wireAftRegistration _ | .wireAftTransfer _ | .wireBalanceQuery _ | .wireMeterRead _ _ => true
  | _ => false

/-- A frame row that the CORE receives. -/
def isReceivedFrame : Instr → Bool
  | .wireBalanceResponse _ | .wireMeterResponse _ => true
  | _ => false

/-- The entries of a meter response, in order. -/
def meterEntries (items : List MeterItem) : List (Byte × List Byte) :=
  items.filterMap fun i =>
    match i with
    | .padding => none
    | .entry code _ value => some (code, value)

/-- The table that entries leave, a later duplicate overwriting an earlier one (R44). -/
def meterTableOf (entries : List (Byte × List Byte)) : MeterTable :=
  entries.foldl
    (fun t e => MeterTable.set t e.1.toNat (BitVec.ofNat 64 ((bcdDecode e.2).getD 0))) []

/-- The parse region of a meter response (R161): the payload of a consistent frame, of any address and
command, or, if the bytes are no consistent frame, everything after the three header bytes. -/
def IsMeterRegion (bs region : List Byte) : Prop :=
  (∃ address command c0 c1 : Byte, region.length ≤ 255 ∧
    bs = [address, command, BitVec.ofNat 8 region.length] ++ region ++ [c0, c1]) ∨
  (∃ address command length : Byte, bs = [address, command, length] ++ region ∧ parseOk bs = false)

/-- The bytes are a frame (R144): a header, then exactly the declared payload and two CRC bytes. -/
abbrev IsFrame (bs : List Byte) : Prop := 3 ≤ bs.length ∧ bs.length = (byteAt bs 2).toNat + 5

/-- The event ends an open read attempt, with these bytes received: the byte that completes a frame or
fills the buffer (R222; RXBUF in its canonical form), or the tick that brings TIMER, which saturates,
above CFG_T_READ (R223). -/
def EndsReadAttempt (c : CoreState) (e : Event) (bs : List Byte) : Prop :=
  (∃ b, e = .rxByte b ∧ Memory.wf Config.frameMax c.buf.rxbuf = true ∧ bs = c.rxBytes ++ [b] ∧
    (IsFrame bs ∨ bs.length = 260)) ∨
  (e = .tick ∧ bs = c.rxBytes ∧ c.cfg.tRead.toNat < min (c.exch.timer.toNat + 1) (2 ^ 32 - 1))

/-- No memory but RXBUF, and none of their counters but RXLEN, differs. -/
abbrev OnlyRxbufChanged (c d : CoreState) : Prop :=
  d.buf = { c.buf with rxbuf := d.buf.rxbuf, rxlen := d.buf.rxlen }

/-- The balance a response shows, if the body of R200 succeeds on it: at least 27 bytes, the address,
the command 0x74, and three amounts of decimal digits. -/
def shownBalance (addr : Byte) (bs : List Byte) : Option Balance :=
  if 27 ≤ bs.length ∧ byteAt bs 0 = addr ∧ byteAt bs 1 = 0x74 then
    match bcdDecode (slice bs 12 17), bcdDecode (slice bs 17 22), bcdDecode (slice bs 22 27) with
    | some cash, some rest, some nonr =>
      some { cash := BitVec.ofNat 64 cash, rest := BitVec.ofNat 64 rest, nonr := BitVec.ofNat 64 nonr }
    | _, _, _ => none
  else none

/-- The response of a poll shows a balance, and CONFIRMED holds with it (R258, R259). -/
def PollConfirms (c : CoreState) (bs : List Byte) : Prop :=
  ∃ b, shownBalance c.cfg.addr bs = some b ∧ (c.withBal b).confirmed = true

/-- The fields of the 0x72 frame for a request (R183, R184), the open bytes and the pool id as the
parameters say. -/
def transferFields (p : Params) (c : CoreState) (type : TransferType) (amount : Nat) (id : Word32) :
    TransferFrame :=
  { address := c.cfg.addr
    transferCode := p.xferCode
    transferIndex := p.xferIndex
    transferTypeByte := match type with
      | .cashable => p.typeByteCash
      | .restricted => p.typeByteRest
      | .nonRestricted => p.typeByteNonr
    cashable := if type = .cashable then amount else 0
    restricted := if type = .restricted then amount else 0
    nonRestricted := if type = .nonRestricted then amount else 0
    transferFlags := p.xferFlags
    assetNumber := c.cfg.asset
    registrationKey := Memory.readRange c.buf.keybuf 0 20
    transactionId := id
    poolId := if p.poolPassthru then c.cfg.poolId else 0 }

/-- Every byte is two decimal digits. -/
def allDigits (bs : List Byte) : Bool :=
  bs.all fun b => (b.extractLsb' 4 4).toNat ≤ 9 && (b.extractLsb' 0 4).toNat ≤ 9

/-- The ARG domain of each op code, lowest and highest value; none for a reserved op code (R82, R83). -/
def argDomain (op : Nat) : Option (Nat × Nat) :=
  match op with
  | 0x00 => some (0, 0)
  | 0x01 => some (0, 2)
  | 0x02 => some (1, 8)
  | 0x03 => some (1, 8)
  | 0x04 => some (0, 255)
  | 0x05 => some (0, 0)
  | 0x06 => some (0, 0)
  | 0x07 => some (0, 0)
  | 0x08 => some (0, 2)
  | 0x09 => some (0, 0)
  | 0x0A => some (0, 0)
  | 0x10 => some (0, 0)
  | 0x20 => some (0, 2)
  | 0x21 => some (0, 0)
  | 0x22 => some (0, 0)
  | _ => none

/-- STATUS with another result code and nothing else changed. -/
abbrev withErr (c : CoreState) (e : ErrCode) : CoreState := c.withStatus { c.status with err := e }

/-- Nibble j of a register, 0 the least significant. -/
abbrev nibble (v : Word64) (j : Nat) : Nat := (v.extractLsb' (4 * j) 4).toNat

/-- So many steps from a state (the host's own run). -/
abbrev runSteps (k : Nat) (s : State) : Host.Outcome State Fault Refusal :=
  Host.Core.run Sys2Proof.core k s

/-- The bytes `[address, command, length] ++ payload ++ [crc low, crc high]` of R86, written out. -/
def frameOf (address command length : Byte) (payload : List Byte) : List Byte :=
  [address, command, length] ++ payload ++
    [(crc16 ([address, command, length] ++ payload)).extractLsb' 0 8,
     (crc16 ([address, command, length] ++ payload)).extractLsb' 8 8]

/-- The next event is RESET. -/
def nextIsReset (s : State) : Bool := s.events.head? == some .reset

end Sys2Proof.Machine
end

