-- ==== Sys2Proof/Certificates/Slice0/Obligations.lean ====
section
/-! DEFINITION. The statements for the provers. Each docstring names the rules of spec/ it rests on. A
state of the model carries any schedule of events and any choice of the open parameters, so every
statement holds for every interleaving and every choice (R331, R332). -/

open Sys2Proof Sys2Proof.Machine

/-! Encodings. -/

/-- A few words and frames written out from R80, R82 and R86 to R93 decode to what they stand for. -/
def Obligations.SampleEncodingsDecode : Prop :=
  decodeWord 0x00000000 = .ok .nop ∧
  decodeWord 0x00000101 = .ok (.crc16 .txbuf) ∧
  decodeWord 0x00000502 = .ok (.bcdEnc 5) ∧
  decodeWord 0x00000303 = .ok (.bcdDec 3) ∧
  decodeWord 0x0000AF04 = .ok (.frameBuild 0xAF) ∧
  decodeWord 0x00000208 = .ok (.buildXfer .nonRestricted) ∧
  decodeWord 0x00000120 = .ok (.aftStart .restricted) ∧
  decodeWord 0x00010010 = .error .reservedNotZero ∧
  decodeWord 0x0000000B = .error .unknownOp ∧
  decodeWord 0x00000902 = .error .argOutOfDomain ∧
  decodeSent [0x01, 0x74, 0x00, 0x78, 0xCD] = .ok (.wireBalanceQuery 1) ∧
  decodeSent [0x01, 0xAF, 0x02, 0x00, 0x0C, 0x54, 0x64] = .ok (.wireMeterRead 1 [0x00, 0x0C])

/-- R81, R301: which words are illegal, in the order of the checks; issuing one writes ERR = 7 and
changes nothing else, whether or not the CORE is active. -/
def Obligations.IllegalWordsRaiseIllegalOpOnly : Prop :=
  (∀ w : Word32,
    (rsvField w ≠ 0 → decodeWord w = .error .reservedNotZero) ∧
    (rsvField w = 0 → argDomain (opField w).toNat = none → decodeWord w = .error .unknownOp) ∧
    (∀ lo hi, rsvField w = 0 → argDomain (opField w).toNat = some (lo, hi) →
      ¬ (lo ≤ (argField w).toNat ∧ (argField w).toNat ≤ hi) → decodeWord w = .error .argOutOfDomain) ∧
    (∀ lo hi, rsvField w = 0 → argDomain (opField w).toNat = some (lo, hi) →
      lo ≤ (argField w).toNat → (argField w).toNat ≤ hi → ∃ i, decodeWord w = .ok i)) ∧
  (∀ (s : State) (w : Word32) (rest : List Event) (e : DecodeError),
    s.events = .issue w :: rest → decodeWord w = .error e →
    step s = .next ((s.withEvents rest).withCore (withErr s.core .illegalOp)))

/-- R80, R82: a word decodes to an operation exactly when it is the word of that operation. -/
def Obligations.HostWordsDecodeExactlyAsEncoded : Prop :=
  ∀ (w : Word32) (i : Instr),
    decodeWord w = .ok i ↔ isHostOp i = true ∧ i.wf = true ∧ encode i = .word w

/-- R86 to R93: every well-formed frame decodes to the instruction it encodes. -/
def Obligations.WireFramesDecodeToWhatTheyEncode : Prop :=
  ∀ i : Instr, isHostOp i = false → i.wf = true → decode (encode i) = .ok i

/-- R80 to R93: whatever decodes is well formed and encodes to the same bits: no bit of a word or a
frame is dropped. -/
def Obligations.DecodedBitsEncodeBack : Prop :=
  ∀ (e : Encoded) (i : Instr), decode e = .ok i → i.wf = true ∧ encode i = e

/-! Steps. -/

/-- R220, R331: a step runs the instruction that its event presents, on the state with that event
taken off the schedule: an issued word, the frame on offer when the channel takes it, a delivered
frame. -/
def Obligations.StepRunsTheDecodedInstruction : Prop :=
  (∀ (s : State) (w : Word32) (rest : List Event) (i : Instr),
    s.events = .issue w :: rest → decodeWord w = .ok i → step s = exec i (s.withEvents rest)) ∧
  (∀ (s : State) (rest : List Event) (i : Instr),
    s.events = .txFrame :: rest → s.core.offersFrame s.core.txFrame = true →
    decodeSent s.core.txFrame = .ok i → step s = exec i (s.withEvents rest)) ∧
  (∀ (s : State) (bs : List Byte) (rest : List Event) (i : Instr),
    s.events = .rxFrame bs :: rest → decodeReceived bs = .ok i → step s = exec i (s.withEvents rest))

/-- R317: no fault and no refusal: every instruction and every step answers a next state, with the same
build-time parameters (R7). -/
def Obligations.EveryStepAnswersANextState : Prop :=
  (∀ (i : Instr) (s : State), ∃ t, exec i s = .next t ∧ t.params = s.params) ∧
  (∀ s : State, ∃ t, step s = .next t ∧ t.params = s.params)

/-- A whole-frame event does what the same bytes do one event at a time (log 3; R221, R222, R331). -/
def Obligations.FrameEventsAreRunsOfByteEvents : Prop :=
  (∀ (s : State) (bs : List Byte) (rest : List Event), s.events = .rxFrame bs :: rest →
    ∃ t, step s = .next t ∧
      runSteps bs.length (s.withEvents (bs.map Event.rxByte ++ rest)) = .next t) ∧
  (∀ (s : State) (rest : List Event), s.events = .txFrame :: rest →
    ∃ t, step s = .next t ∧
      runSteps s.core.bytesLeft
        (s.withEvents (List.replicate s.core.bytesLeft Event.txAccept ++ rest)) = .next t)

/-! Host operations. -/

/-- R303: Busy. -/
def Obligations.OperationsAreBusyWhileActive : Prop :=
  (∀ (i : Instr) (s : State), isHostOp i = true → acceptedWhileActive i = false → i.wf = true →
    s.core.active = true → exec i s = .next (s.withCore (withErr s.core .busy))) ∧
  (∀ (ty : TransferType) (s : State), s.core.status.seq.isTerminal = true →
    exec (.aftStart ty) s = .next (s.withCore (withErr s.core .busy))) ∧
  (∀ s : State, s.core.active = false →
    ∃ t, exec .aftClear s = .next t ∧ t.core.status.err = .ok)

/-- R224: NOP writes ERR = 0 and nothing else, active or not. -/
def Obligations.NopWritesErrOnly : Prop :=
  ∀ s : State, exec .nop s = .next (s.withCore (withErr s.core .ok))

/-- R122: the result of CRC16 from each source; nothing else but ERR changes. -/
def Obligations.CrcOperationResult : Prop :=
  ∀ (src : CrcSource) (s : State), s.core.active = false →
    exec (.crc16 src) s = .next (s.withCore (withErr (s.core.withRes { s.core.res with
      crc := crc16 (match src with
        | .pbuf => Memory.readRange s.core.buf.pbuf 0 s.core.buf.plen.toNat
        | .txbuf => Memory.readRange s.core.buf.txbuf 0 s.core.buf.txlen.toNat
        | .rxbuf => Memory.readRange s.core.buf.rxbuf 0 s.core.buf.rxlen.toNat) }) .ok))

/-- R123: the residue of a sequence followed by its CRC is 0, and the nibble form computes the same
function, byte by byte and for whole sequences. -/
def Obligations.CrcResidueAndNibbleForm : Prop :=
  (∀ bs : List Byte,
    crc16 (bs ++ [(crc16 bs).extractLsb' 0 8, (crc16 bs).extractLsb' 8 8]) = 0) ∧
  (∀ (crc : Word16) (b : Byte), crcByte crc b = crcNibbleByte crc b) ∧
  (∀ bs : List Byte, crc16 bs = crcNibble bs)

/-- R124: the check value, and the order in which its bytes are appended. -/
def Obligations.CrcCheckValue : Prop :=
  crc16 [0x31, 0x32, 0x33, 0x34, 0x35, 0x36, 0x37, 0x38, 0x39] = 0x2189 ∧
  le16 (crc16 [0x31, 0x32, 0x33, 0x34, 0x35, 0x36, 0x37, 0x38, 0x39]) = [0x89, 0x21]

/-- R101: BCD_ENC writes the decimal digits of OPND_VALUE as the nibbles of RES_BCD, or reports
EncodingError; an ARG outside 1..8 is IllegalOp. -/
def Obligations.BcdEncodeResult : Prop :=
  (∀ (n : Byte) (s : State), s.core.active = false → 1 ≤ n.toNat → n.toNat ≤ 8 →
    s.core.opnd.value.toNat < 10 ^ (2 * n.toNat) →
    ∃ x : Word64,
      exec (.bcdEnc n) s =
        .next (s.withCore (withErr (s.core.withRes { s.core.res with bcd := x }) .ok)) ∧
      ∀ j < 16, nibble x j = s.core.opnd.value.toNat / 10 ^ j % 10) ∧
  (∀ (n : Byte) (s : State), s.core.active = false → 1 ≤ n.toNat → n.toNat ≤ 8 →
    10 ^ (2 * n.toNat) ≤ s.core.opnd.value.toNat →
    exec (.bcdEnc n) s = .next (s.withCore (withErr s.core .encodingError))) ∧
  (∀ (n : Byte) (s : State), ¬ (1 ≤ n.toNat ∧ n.toNat ≤ 8) →
    exec (.bcdEnc n) s = .next (s.withCore (withErr s.core .illegalOp)))

/-- R104: BCD_DEC reads the low 2n nibbles of OPND_BCD as decimal digits, or reports DigitError; the
higher bits are ignored; an ARG outside 1..8 is IllegalOp. -/
def Obligations.BcdDecodeResult : Prop :=
  (∀ (n : Byte) (s : State), s.core.active = false → 1 ≤ n.toNat → n.toNat ≤ 8 →
    (∀ j < 2 * n.toNat, nibble s.core.opnd.bcd j ≤ 9) →
    ∃ x : Word64,
      exec (.bcdDec n) s =
        .next (s.withCore (withErr (s.core.withRes { s.core.res with value := x }) .ok)) ∧
      x.toNat =
        ((List.range (2 * n.toNat)).map fun j => nibble s.core.opnd.bcd j * 10 ^ j).sum) ∧
  (∀ (n : Byte) (s : State), s.core.active = false → 1 ≤ n.toNat → n.toNat ≤ 8 →
    (∃ j < 2 * n.toNat, 9 < nibble s.core.opnd.bcd j) →
    exec (.bcdDec n) s = .next (s.withCore (withErr s.core .digitError))) ∧
  (∀ (n : Byte) (s : State), ¬ (1 ≤ n.toNat ∧ n.toNat ≤ 8) →
    exec (.bcdDec n) s = .next (s.withCore (withErr s.core .illegalOp)))

/-- R102: both directions of the round trip. -/
def Obligations.BcdRoundTrip : Prop :=
  (∀ n v : Nat, 1 ≤ n → v < 10 ^ (2 * n) →
    ∃ bs, bcdEncode v n = some bs ∧ bcdDecode bs = some v) ∧
  (∀ bs : List Byte, bs ≠ [] → allDigits bs = true →
    ∃ v, bcdDecode bs = some v ∧ bcdEncode v bs.length = some bs)

/-- R141 (and R140, R91): FRAME_BUILD writes the frame of CFG_ADDR, ARG and PBUF to TXBUF, keeps the
bytes of TXBUF beyond it, and changes nothing else but TXLEN and ERR; with ARG 0xAF the frame is the
wire row of a meter read. -/
def Obligations.FrameBuildResult : Prop :=
  ∀ (c : Byte) (s : State), MemoriesCanonical s.core → s.core.active = false →
    ∃ m : Memory,
      exec (.frameBuild c) s = .next (s.withCore (withErr (s.core.withBuf { s.core.buf with
        txbuf := m, txlen := s.core.buf.plen.setWidth 9 + 5 }) .ok)) ∧
      Memory.wf Config.frameMax m = true ∧
      (∀ a, Memory.read m a = if a < s.core.buf.plen.toNat + 5
        then byteAt (frameOf s.core.cfg.addr c s.core.buf.plen s.core.payload) a
        else Memory.read s.core.buf.txbuf a) ∧
      (c = 0xAF → frameOf s.core.cfg.addr c s.core.buf.plen s.core.payload =
        wireBytes (.wireMeterRead s.core.cfg.addr s.core.payload))

/-- R143: FRAME_PARSE takes address, command and length of a consistent frame, whatever its CRC, and
reports FrameError otherwise. -/
def Obligations.FrameParseResult : Prop :=
  (∀ s : State, s.core.active = false → 3 ≤ s.core.buf.rxlen.toNat →
    s.core.buf.rxlen.toNat = (Memory.read s.core.buf.rxbuf 2).toNat + 5 →
    exec .frameParse s = .next (s.withCore (withErr (s.core.withRes { s.core.res with
      frameAddr := Memory.read s.core.buf.rxbuf 0
      frameCmd := Memory.read s.core.buf.rxbuf 1
      frameLen := Memory.read s.core.buf.rxbuf 2 }) .ok))) ∧
  (∀ s : State, s.core.active = false →
    (s.core.buf.rxlen.toNat < 3 ∨
      s.core.buf.rxlen.toNat ≠ (Memory.read s.core.buf.rxbuf 2).toNat + 5) →
    exec .frameParse s = .next (s.withCore (withErr s.core .frameError)))

/-- R146: a frame that FRAME_BUILD wrote, copied to RXBUF, parses to its address, command, length and
payload. -/
def Obligations.FrameRoundTripThroughTheBuffers : Prop :=
  ∀ (c : Byte) (s t u : State), MemoriesCanonical s.core → s.core.active = false →
    s.core.buf.plen.toNat ≤ 255 → exec (.frameBuild c) s = .next t →
    u.core.active = false → u.core.rxBytes = t.core.txFrame →
    ∃ v, exec .frameParse u = .next v ∧ v.core.status.err = .ok ∧
      v.core.res.frameAddr = s.core.cfg.addr ∧ v.core.res.frameCmd = c ∧
      v.core.res.frameLen = s.core.buf.plen ∧
      slice v.core.rxBytes 3 (3 + s.core.buf.plen.toNat) = s.core.payload

/-- R164, R166: METER_PARSE never ends in another error than ResponseTooShort, which it reports exactly
for fewer than three bytes, with an empty table; the table never holds code 0x00, and MCOUNT is at
most CFG_MCAP. -/
def Obligations.MeterParseNeverRaises : Prop :=
  ∀ s : State, s.core.active = false →
    ∃ (tab : MeterTable) (n : Byte) (part : Bool),
      exec .meterParse s = .next (s.withCore
        ((s.core.withBuf { s.core.buf with mtab := tab, mcount := n }).withStatus
          { s.core.status with
            err := if s.core.buf.rxlen.toNat < 3 then .responseTooShort else .ok
            partialResult := part })) ∧
      (s.core.buf.rxlen.toNat < 3 → tab = [] ∧ n = 0 ∧ part = false) ∧
      MeterTable.wf tab = true ∧ MeterTable.find tab 0 = none ∧ n.toNat = tab.length ∧
      n.toNat ≤ s.core.cfg.mcap.toNat

/-- R160, R93, R161: a response laid out as R93 says, with decimal values and no more entries than
CFG_MCAP, is a complete result: the table of its entries, the last of each code, with ERR = 0 and
PARTIAL = 0. So is any response whose parse region holds such items, whatever its address and command
byte: the payload of a consistent frame, everything after the header of an inconsistent one. -/
def Obligations.CompleteMeterResponseFillsTheTable : Prop :=
  (∀ (s : State) (r : MeterResponse), s.core.active = false → r.wf = true →
    s.core.rxBytes = r.bytes → (∀ e ∈ meterEntries r.items, allDigits e.2 = true) →
    (meterEntries r.items).length ≤ s.core.cfg.mcap.toNat →
    exec .meterParse s = .next (s.withCore
      ((s.core.withBuf { s.core.buf with
          mtab := meterTableOf (meterEntries r.items)
          mcount := BitVec.ofNat 8 (meterTableOf (meterEntries r.items)).length }).withStatus
        { s.core.status with err := .ok, partialResult := false }))) ∧
  (∀ (s : State) (items : List MeterItem), s.core.active = false →
    items.all MeterItem.wf = true → (∀ e ∈ meterEntries items, allDigits e.2 = true) →
    IsMeterRegion s.core.rxBytes (items.flatMap MeterItem.bytes) →
    (meterEntries items).length ≤ s.core.cfg.mcap.toNat →
    exec .meterParse s = .next (s.withCore
      ((s.core.withBuf { s.core.buf with
          mtab := meterTableOf (meterEntries items)
          mcount := BitVec.ofNat 8 (meterTableOf (meterEntries items)).length }).withStatus
        { s.core.status with err := .ok, partialResult := false })))

/-- R162, R161: in either parse region, whatever the address and the command byte, after complete entries, what does not parse as an entry ends the parse with a partial result
that keeps them and reports no error: too few bytes, a length of 0, above 9 or past the region, a value
that is not decimal; so does anything but padding once CFG_MCAP entries were read. -/
def Obligations.MalformedMeterEntryEndsTheParse : Prop :=
  ∀ (s : State) (items : List MeterItem) (bad : List Byte),
    s.core.active = false → items.all MeterItem.wf = true →
    (∀ e ∈ meterEntries items, allDigits e.2 = true) →
    IsMeterRegion s.core.rxBytes (items.flatMap MeterItem.bytes ++ bad) →
    (meterEntries items).length ≤ s.core.cfg.mcap.toNat → byteAt bad 0 ≠ 0 →
    ((meterEntries items).length = s.core.cfg.mcap.toNat ∨ bad.length < 3 ∨
      (byteAt bad 2).toNat = 0 ∨ 9 < (byteAt bad 2).toNat ∨
      bad.length < 3 + (byteAt bad 2).toNat ∨
      allDigits (slice bad 3 (3 + (byteAt bad 2).toNat)) = false) →
    exec .meterParse s = .next (s.withCore
      ((s.core.withBuf { s.core.buf with
          mtab := meterTableOf (meterEntries items)
          mcount := BitVec.ofNat 8 (meterTableOf (meterEntries items)).length }).withStatus
        { s.core.status with err := .ok, partialResult := true }))

/-- R88, R181: BUILD_REG puts the 34-byte 0x73 frame in TXBUF, byte for byte as the layout says, and
changes nothing else but TXLEN and ERR; its posId field keeps the first four characters and pads on
the right with 0x00. -/
def Obligations.RegistrationFrameFollowsItsLayout : Prop :=
  (∀ (p : Params) (g : ConfigRegs), (g.posField p).length = 4 ∧
    ∀ k < 4, byteAt (g.posField p) k =
      if k < g.posLen.toNat then g.posId.extractLsb' (8 * k) 8 else 0x00) ∧
  ∀ s : State, MemoriesCanonical s.core → s.core.active = false →
    ∃ m : Memory,
      exec .buildReg s = .next (s.withCore (withErr (s.core.withBuf { s.core.buf with
        txbuf := m, txlen := 34 }) .ok)) ∧
      Memory.readRange m 0 34 = frameOf s.core.cfg.addr 0x73 0x1D
        ([0x01] ++ le32 s.core.cfg.asset ++ Memory.readRange s.core.buf.keybuf 0 20
          ++ s.core.cfg.posField s.params) ∧
      Memory.readRange m 0 34 = wireBytes (.wireAftRegistration
        { address := s.core.cfg.addr
          assetNumber := s.core.cfg.asset
          registrationKey := Memory.readRange s.core.buf.keybuf 0 20
          posId := s.core.cfg.posField s.params }) ∧
      (∀ a, 34 ≤ a → Memory.read m a = Memory.read s.core.buf.txbuf a)

/-- R89, R183, R184: BUILD_XFER puts the 0x72 frame in TXBUF, the amount in the field its type selects,
TXLEN 56 plus the digits of the id; an amount of more than ten digits is EncodingError and changes
nothing else. -/
def Obligations.TransferFrameFollowsItsLayout : Prop :=
  (∀ (ty : TransferType) (s : State), MemoriesCanonical s.core → s.core.active = false →
    s.core.opnd.value.toNat < 10 ^ 10 →
    ∃ m : Memory,
      exec (.buildXfer ty) s = .next (s.withCore (withErr (s.core.withBuf { s.core.buf with
        txbuf := m
        txlen := BitVec.ofNat 9 (56 + (digits s.core.opnd.txid.toNat).length) }) .ok)) ∧
      Memory.readRange m 0 (56 + (digits s.core.opnd.txid.toNat).length) =
        wireBytes (.wireAftTransfer
          { address := s.core.cfg.addr
            transferCode := s.params.xferCode
            transferIndex := s.params.xferIndex
            transferTypeByte := match ty with
              | .cashable => s.params.typeByteCash
              | .restricted => s.params.typeByteRest
              | .nonRestricted => s.params.typeByteNonr
            cashable := if ty = .cashable then s.core.opnd.value.toNat else 0
            restricted := if ty = .restricted then s.core.opnd.value.toNat else 0
            nonRestricted := if ty = .nonRestricted then s.core.opnd.value.toNat else 0
            transferFlags := s.params.xferFlags
            assetNumber := s.core.cfg.asset
            registrationKey := Memory.readRange s.core.buf.keybuf 0 20
            transactionId := s.core.opnd.txid
            poolId := if s.params.poolPassthru then s.core.cfg.poolId else 0 }) ∧
      (∀ a, 56 + (digits s.core.opnd.txid.toNat).length ≤ a →
        Memory.read m a = Memory.read s.core.buf.txbuf a)) ∧
  (∀ (ty : TransferType) (s : State), s.core.active = false → 10 ^ 10 ≤ s.core.opnd.value.toNat →
    exec (.buildXfer ty) s = .next (s.withCore (withErr s.core .encodingError)))

/-- R185: the transaction id field is the count of the decimal digits of the id, 1 to 10 without a
leading zero, followed by the digits in ASCII; id 42 gives `02 34 32`. -/
def Obligations.TransactionIdFieldSpellsTheId : Prop :=
  (∀ id : Word32,
    (asciiOfId id).length = (digits id.toNat).length ∧
    1 ≤ (asciiOfId id).length ∧ (asciiOfId id).length ≤ 10 ∧
    ofDigits ((asciiOfId id).map fun b => b.toNat - 0x30) = id.toNat ∧
    (∀ b ∈ asciiOfId id, 0x30 ≤ b.toNat ∧ b.toNat ≤ 0x39) ∧
    (1 < (asciiOfId id).length → byteAt (asciiOfId id) 0 ≠ 0x30)) ∧
  (∀ f : TransferFrame, f.wf = true →
    slice f.payload 43 (44 + (asciiOfId f.transactionId).length) =
      BitVec.ofNat 8 (digits f.transactionId.toNat).length :: asciiOfId f.transactionId) ∧
  asciiOfId 42 = [0x34, 0x32] ∧ (digits 42).length = 2

/-- R90, R186: BUILD_BALQ puts `[addr, 0x74, 0x00, crcLo, crcHi]` in TXBUF. -/
def Obligations.BalanceQueryFrameFollowsItsLayout : Prop :=
  ∀ s : State, MemoriesCanonical s.core → s.core.active = false →
    ∃ m : Memory,
      exec .buildBalq s = .next (s.withCore (withErr (s.core.withBuf { s.core.buf with
        txbuf := m, txlen := 5 }) .ok)) ∧
      Memory.readRange m 0 5 = frameOf s.core.cfg.addr 0x74 0x00 [] ∧
      Memory.readRange m 0 5 = wireBytes (.wireBalanceQuery s.core.cfg.addr) ∧
      (∀ a, 5 ≤ a → Memory.read m a = Memory.read s.core.buf.txbuf a)

/-- R200: the three outcomes of BAL_PARSE. -/
def Obligations.BalanceParseResult : Prop :=
  (∀ s : State, s.core.active = false →
    (s.core.buf.rxlen.toNat < 27 ∨ Memory.read s.core.buf.rxbuf 0 ≠ s.core.cfg.addr ∨
      Memory.read s.core.buf.rxbuf 1 ≠ 0x74) →
    exec .balParse s = .next (s.withCore (withErr s.core .responseTooShort))) ∧
  (∀ s : State, s.core.active = false → 27 ≤ s.core.buf.rxlen.toNat →
    Memory.read s.core.buf.rxbuf 0 = s.core.cfg.addr → Memory.read s.core.buf.rxbuf 1 = 0x74 →
    allDigits (Memory.readRange s.core.buf.rxbuf 12 15) = false →
    exec .balParse s = .next (s.withCore (withErr s.core .digitError))) ∧
  (∀ s : State, s.core.active = false → 27 ≤ s.core.buf.rxlen.toNat →
    Memory.read s.core.buf.rxbuf 0 = s.core.cfg.addr → Memory.read s.core.buf.rxbuf 1 = 0x74 →
    allDigits (Memory.readRange s.core.buf.rxbuf 12 15) = true →
    ∃ cash rest nonr : Nat,
      bcdDecode (Memory.readRange s.core.buf.rxbuf 12 5) = some cash ∧
      bcdDecode (Memory.readRange s.core.buf.rxbuf 17 5) = some rest ∧
      bcdDecode (Memory.readRange s.core.buf.rxbuf 22 5) = some nonr ∧
      exec .balParse s = .next (s.withCore (withErr ((s.core.withBal
        { cash := BitVec.ofNat 64 cash, rest := BitVec.ofNat 64 rest,
          nonr := BitVec.ofNat 64 nonr }).withBalStat
        { lock := Memory.read s.core.buf.rxbuf s.params.lockOff.val
          aft := Memory.read s.core.buf.rxbuf s.params.aftOff.val
          valid := true }) .ok)))

/-- R92: a response laid out as R92 says, from the configured address and with decimal amounts, gives
its amounts to BAL_CASH, BAL_REST and BAL_NONR, whatever its length byte and its tail. -/
def Obligations.BalanceResponseLayoutIsRead : Prop :=
  ∀ (s : State) (r : BalanceResponse) (cash rest nonr : Nat), s.core.active = false →
    r.wf = true → s.core.rxBytes = r.bytes → r.address = s.core.cfg.addr →
    bcdDecode r.cashable = some cash → bcdDecode r.restricted = some rest →
    bcdDecode r.nonRestricted = some nonr →
    ∃ t, exec .balParse s = .next t ∧ t.core.status.err = .ok ∧
      t.core.bal.cash.toNat = cash ∧ t.core.bal.rest.toNat = rest ∧ t.core.bal.nonr.toNat = nonr ∧
      t.core.balStat.valid = true ∧
      t.core.balStat.lock = byteAt r.bytes s.params.lockOff.val ∧
      t.core.balStat.aft = byteAt r.bytes s.params.aftOff.val

/-- R225, R221: XCHG at its issue starts the write phase, or opens the read attempt at once if TXLEN
is 0. -/
def Obligations.XchgStartsAnExchange : Prop :=
  (∀ s : State, s.core.active = false → s.core.buf.txlen ≠ 0 →
    exec .xchg s = .next (s.withCore
      (((s.core.withExch { s.core.exch with
          xchgAct := true, owner := .standalone, txPos := 0 }).withBuf
        { s.core.buf with rxlen := 0 }).withStatus
        { s.core.status with err := .ok, phase := .tx }))) ∧
  (∀ s : State, s.core.active = false → s.core.buf.txlen = 0 →
    exec .xchg s = .next (s.withCore
      (((s.core.withExch { s.core.exch with
          xchgAct := true, owner := .standalone, txPos := 0, rxOpen := true, timer := 0 }).withBuf
        { s.core.buf with rxlen := 0 }).withStatus
        { s.core.status with err := .ok, phase := .rx })))

/-- R250: AFT_START from Idle. Either the amount or the id does not fit, and the sequence is Failed at
once with no byte sent, or the request is latched, the snapshot taken, the 0x73 frame built and its
write phase started. -/
def Obligations.AftStartResult : Prop :=
  (∀ (ty : TransferType) (s : State), s.core.active = false → s.core.status.seq = .idle →
    (10 ^ 10 ≤ s.core.opnd.value.toNat ∨ s.core.txidLast = BitVec.allOnes 32) →
    exec (.aftStart ty) s = .next (s.withCore
      ((((s.core.withReq { amount := s.core.opnd.value, type := ty, txid := 0 }).withSeqInfo
        .clear).withElapsed .clear).withStatus { s.core.status with
          err := .encodingError, seq := .failed, failKind := .encodingError,
          cancelPending := false }))) ∧
  (∀ (ty : TransferType) (s : State), MemoriesCanonical s.core → s.core.active = false →
    s.core.status.seq = .idle → s.core.opnd.value.toNat < 10 ^ 10 →
    s.core.txidLast ≠ BitVec.allOnes 32 →
    ∃ m : Memory,
      exec (.aftStart ty) s = .next (s.withCore
        ((((((((s.core.withReq { amount := s.core.opnd.value, type := ty, txid := 0 }).withSeqInfo
          .clear).withElapsed .clear).withPre s.core.bal).withPreValid
          s.core.balStat.valid).withBuf { s.core.buf with txbuf := m, txlen := 34, rxlen := 0 }).withExch
          { s.core.exch with owner := .sequencer, txPos := 0 }).withStatus { s.core.status with
            err := .ok, seq := .registering, phase := .tx, failKind := .ok,
            cancelPending := false })) ∧
      Memory.readRange m 0 34 = wireBytes (.wireAftRegistration
        { address := s.core.cfg.addr
          assetNumber := s.core.cfg.asset
          registrationKey := Memory.readRange s.core.buf.keybuf 0 20
          posId := s.core.cfg.posField s.params }) ∧
      ∀ a, 34 ≤ a → Memory.read m a = Memory.read s.core.buf.txbuf a)

/-- R262: AFT_CANCEL waits for the end of a write, fails any other active sequence at once, and does
nothing but ERR = 0 elsewhere. -/
def Obligations.AftCancelResult : Prop :=
  (∀ s : State, s.core.status.seq.isActive = true → s.core.status.phase = .tx →
    exec .aftCancel s = .next (s.withCore (s.core.withStatus
      { s.core.status with err := .ok, cancelPending := true }))) ∧
  (∀ s : State, s.core.status.seq.isActive = true → s.core.status.phase ≠ .tx →
    exec .aftCancel s = .next (s.withCore ((s.core.withStatus
      { s.core.status with
        err := .cancelled, seq := .failed, phase := .none, cancelPending := false,
        failKind := .cancelled }).withExch { s.core.exch with rxOpen := false }))) ∧
  (∀ s : State, s.core.status.seq.isActive = false →
    exec .aftCancel s = .next (s.withCore (withErr s.core .ok)))

/-- R265: AFT_CLEAR returns a terminal state to Idle and clears FAIL_KIND; in Idle it writes ERR
only. -/
def Obligations.AftClearResult : Prop :=
  (∀ s : State, s.core.active = false → s.core.status.seq.isTerminal = true →
    exec .aftClear s = .next (s.withCore (s.core.withStatus
      { s.core.status with err := .ok, seq := .idle, failKind := .ok }))) ∧
  (∀ s : State, s.core.active = false → s.core.status.seq.isTerminal = false →
    exec .aftClear s = .next (s.withCore (withErr s.core .ok)))

/-! The wire rows. -/

/-- R221, R88 to R91: when the CORE offers a frame of a wire row, the channel takes all its bytes, in
order; then the read attempt opens, or a sequence whose cancel was pending fails. A frame that is not
on offer is not taken. -/
def Obligations.SentFramesAreTakenInOrder : Prop :=
  (∀ (i : Instr) (s : State), isSentFrame i = true → i.wf = true →
    s.core.offersFrame (wireBytes i) = true →
    ∃ t, exec i s = .next t ∧ t.params = s.params ∧ t.events = s.events ∧
      t.hostRead = s.hostRead ∧ t.wire = s.wire ++ (wireBytes i).map WireByte.sent ∧
      (¬ (s.core.exch.owner = .sequencer ∧ s.core.status.cancelPending = true) →
        t.core = (s.core.withStatus { s.core.status with phase := .rx }).withExch
          { s.core.exch with txPos := s.core.buf.txlen, rxOpen := true, timer := 0 }) ∧
      (s.core.exch.owner = .sequencer → s.core.status.cancelPending = true →
        t.core = (s.core.withStatus { s.core.status with
          err := .cancelled, seq := .failed, phase := .none, cancelPending := false,
          failKind := .cancelled }).withExch
          { s.core.exch with txPos := s.core.buf.txlen, rxOpen := false })) ∧
  (∀ (i : Instr) (s : State), isSentFrame i = true →
    s.core.offersFrame (wireBytes i) = false → exec i s = .next s)

/-- R222, R92, R93: every byte of a delivered response crosses the wire; with no read attempt open the
CORE does not change; in the read attempt of a standalone exchange a response whose length byte is
right is stored whole and ends the exchange with ERR = 0. R254: an attempt of Registering or
Transferring that ends with a frame, of any address, command and content, sets REG_REPLIED or
XFER_REPLIED, and the settle wait of that step begins. -/
def Obligations.ReceivedFramesAreDelivered : Prop :=
  (∀ (i : Instr) (s : State), isReceivedFrame i = true →
    ∃ t, exec i s = .next t ∧ t.params = s.params ∧ t.events = s.events ∧
      t.hostRead = s.hostRead ∧ t.wire = s.wire ++ (wireBytes i).map WireByte.received ∧
      (s.core.exch.rxOpen = false → t.core = s.core)) ∧
  (∀ (i : Instr) (s : State), isReceivedFrame i = true → i.wf = true → MemoriesCanonical s.core →
    s.core.exch.rxOpen = true → s.core.buf.rxlen = 0 → s.core.exch.owner = .standalone →
    (wireBytes i).length = (byteAt (wireBytes i) 2).toNat + 5 →
    ∃ t, exec i s = .next t ∧ t.core.rxBytes = wireBytes i ∧
      t.core.status = { s.core.status with err := .ok, phase := .none } ∧
      t.core.exch = { s.core.exch with xchgAct := false, rxOpen := false } ∧
      t.core.buf.txbuf = s.core.buf.txbuf ∧ t.core.buf.txlen = s.core.buf.txlen ∧
      t.core.bal = s.core.bal ∧ t.core.buf.mtab = s.core.buf.mtab) ∧
  (∀ (s : State) (e : Event) (rest : List Event) (bs : List Byte), s.events = e :: rest →
    s.core.exch.rxOpen = true → s.core.exch.owner = .sequencer →
    EndsReadAttempt s.core e bs → IsFrame bs →
    (s.core.status.seq = .registering →
      ∃ t, step s = .next t ∧
        t.core.status = { s.core.status with seq := .awaitRegistrationSettle, phase := .wait } ∧
        t.core.seqInfo = { s.core.seqInfo with regReplied := true } ∧
        t.core.exch = { s.core.exch with rxOpen := false, timer := 0 } ∧
        t.core.rxBytes = bs ∧ OnlyRxbufChanged s.core t.core ∧ t.core.bal = s.core.bal ∧
        t.core.txidLast = s.core.txidLast ∧ t.core.req = s.core.req) ∧
    (s.core.status.seq = .transferring →
      ∃ t, step s = .next t ∧
        t.core.status = { s.core.status with seq := .awaitTransferSettle, phase := .wait } ∧
        t.core.seqInfo = { s.core.seqInfo with xferReplied := true } ∧
        t.core.exch = { s.core.exch with rxOpen := false, timer := 0 } ∧
        t.core.rxBytes = bs ∧ OnlyRxbufChanged s.core t.core ∧ t.core.bal = s.core.bal ∧
        t.core.txidLast = s.core.txidLast ∧ t.core.req = s.core.req))

/-! Events of the channel, the time base and the host. -/

/-- R223, R225: a standalone read attempt in which nothing arrives stays open for CFG_T_READ ticks and
ends with SequenceTimeout on the next one. -/
def Obligations.SilentReadAttemptTimesOut : Prop :=
  ∀ s : State, s.core.exch.rxOpen = true → s.core.exch.owner = .standalone →
    s.core.exch.timer = 0 → s.core.buf.rxlen = 0 → s.core.cfg.tRead.toNat + 1 < 2 ^ 32 →
    (∀ k ≤ s.core.cfg.tRead.toNat, ∃ t,
      runSteps k (s.withEvents (List.replicate k Event.tick)) = .next t ∧
      t.core.exch.rxOpen = true ∧ t.core.exch.timer.toNat = k) ∧
    (∃ t, runSteps (s.core.cfg.tRead.toNat + 1)
        (s.withEvents (List.replicate (s.core.cfg.tRead.toNat + 1) Event.tick)) = .next t ∧
      t.core.exch.rxOpen = false ∧ t.core.exch.xchgAct = false ∧ t.core.status.phase = .none ∧
      t.core.status.err = .sequenceTimeout ∧ t.core.buf = s.core.buf)

/-- R242, R256, R257: a settle wait of T lasts exactly T + 1 ticks, and leads on to Transferring, with
the next transaction id and the 0x72 frame of the latched request, or to VerifyingBalance, with the
balance query; the poll interval lasts exactly CFG_T_POLL + 1 ticks and offers the same frame again. A
wait of 2^32 - 1 never ends, because TIMER saturates (log 11). -/
def Obligations.SettleWaitsLastOneTickMore : Prop :=
  (∀ s : State, s.core.status.phase = .wait → s.core.exch.rxOpen = false →
    s.core.exch.timer = 0 → s.core.status.seq = .awaitRegistrationSettle →
    s.core.cfg.tRegSettle.toNat + 1 < 2 ^ 32 →
    (∀ k ≤ s.core.cfg.tRegSettle.toNat, ∃ t,
      runSteps k (s.withEvents (List.replicate k Event.tick)) = .next t ∧
      t.core.status.seq = .awaitRegistrationSettle ∧ t.core.exch.timer.toNat = k) ∧
    (∃ t, runSteps (s.core.cfg.tRegSettle.toNat + 1)
        (s.withEvents (List.replicate (s.core.cfg.tRegSettle.toNat + 1) Event.tick)) = .next t ∧
      t.core.status.seq = .transferring ∧ t.core.status.phase = .tx ∧ t.core.exch.txPos = 0 ∧
      t.core.txidLast = s.core.txidLast + 1 ∧ t.core.req.txid = t.core.txidLast ∧
      t.core.req.amount = s.core.req.amount ∧ t.core.req.type = s.core.req.type ∧
      t.core.seqInfo.retryUsed = false ∧
      (MemoriesCanonical s.core → s.core.req.amount.toNat < 10 ^ 10 →
        t.core.txFrame = wireBytes (.wireAftTransfer (transferFields s.params s.core
          s.core.req.type s.core.req.amount.toNat (s.core.txidLast + 1))) ∧
        ∀ a, t.core.buf.txlen.toNat ≤ a →
          Memory.read t.core.buf.txbuf a = Memory.read s.core.buf.txbuf a))) ∧
  (∀ s : State, s.core.status.phase = .wait → s.core.exch.rxOpen = false →
    s.core.exch.timer = 0 → s.core.status.seq = .awaitTransferSettle →
    s.core.cfg.tXferSettle.toNat + 1 < 2 ^ 32 →
    (∀ k ≤ s.core.cfg.tXferSettle.toNat, ∃ t,
      runSteps k (s.withEvents (List.replicate k Event.tick)) = .next t ∧
      t.core.status.seq = .awaitTransferSettle ∧ t.core.exch.timer.toNat = k) ∧
    (∃ t, runSteps (s.core.cfg.tXferSettle.toNat + 1)
        (s.withEvents (List.replicate (s.core.cfg.tXferSettle.toNat + 1) Event.tick)) = .next t ∧
      t.core.status.seq = .verifyingBalance ∧ t.core.status.phase = .tx ∧ t.core.exch.txPos = 0 ∧
      t.core.buf.txlen = 5 ∧ t.core.seqInfo.pollsDone = 0 ∧
      t.core.txidLast = s.core.txidLast ∧
      (MemoriesCanonical s.core →
        t.core.txFrame = wireBytes (.wireBalanceQuery s.core.cfg.addr) ∧
        ∀ a, 5 ≤ a → Memory.read t.core.buf.txbuf a = Memory.read s.core.buf.txbuf a))) ∧
  (∀ s : State, s.core.status.phase = .wait → s.core.exch.rxOpen = false →
    s.core.exch.timer = 0 → s.core.status.seq = .verifyingBalance → s.core.buf.txlen ≠ 0 →
    s.core.cfg.tPoll.toNat + 1 < 2 ^ 32 →
    (∀ k ≤ s.core.cfg.tPoll.toNat, ∃ t,
      runSteps k (s.withEvents (List.replicate k Event.tick)) = .next t ∧
      t.core.status = s.core.status ∧ t.core.exch.timer.toNat = k) ∧
    (∃ t, runSteps (s.core.cfg.tPoll.toNat + 1)
        (s.withEvents (List.replicate (s.core.cfg.tPoll.toNat + 1) Event.tick)) = .next t ∧
      t.core.status = { s.core.status with phase := .tx } ∧ t.core.exch.txPos = 0 ∧
      t.core.exch.owner = .sequencer ∧ t.core.buf = { s.core.buf with rxlen := 0 } ∧
      t.core.seqInfo = s.core.seqInfo ∧ t.core.txidLast = s.core.txidLast)) ∧
  (∀ (s : State) (k : Nat), s.core.status.phase = .wait → s.core.exch.rxOpen = false →
    (s.core.status.seq = .awaitRegistrationSettle ∧ s.core.cfg.tRegSettle = BitVec.allOnes 32 ∨
      s.core.status.seq = .awaitTransferSettle ∧ s.core.cfg.tXferSettle = BitVec.allOnes 32 ∨
      s.core.status.seq = .verifyingBalance ∧ s.core.cfg.tPoll = BitVec.allOnes 32) →
    ∃ t, runSteps k (s.withEvents (List.replicate k Event.tick)) = .next t ∧
      t.core.status = s.core.status)

/-- R254, R255: a registration or transfer attempt that ends without a frame, by its timeout or with a
full buffer, its retry unused, sends the same TXBUF again under the same id; with its retry used, it sets
TO_REG or TO_XFER and the settle wait of that step begins. -/
def Obligations.TimedOutStepResendsTheSameFrame : Prop :=
  ∀ (s : State) (e : Event) (rest : List Event) (bs : List Byte), s.events = e :: rest →
    s.core.exch.rxOpen = true → s.core.exch.owner = .sequencer →
    EndsReadAttempt s.core e bs → ¬ IsFrame bs →
    ((s.core.status.seq = .registering ∨ s.core.status.seq = .transferring) →
      s.core.seqInfo.retryUsed = false → s.core.buf.txlen ≠ 0 →
      ∃ t, step s = .next t ∧ t.core.status = { s.core.status with phase := .tx } ∧
        t.core.buf.rxlen = 0 ∧ OnlyRxbufChanged s.core t.core ∧
        (e = .tick → t.core.buf.rxbuf = s.core.buf.rxbuf) ∧ t.core.exch.txPos = 0 ∧
        t.core.exch.rxOpen = false ∧ t.core.exch.owner = .sequencer ∧
        t.core.seqInfo = { s.core.seqInfo with retryUsed := true } ∧
        t.core.txidLast = s.core.txidLast ∧ t.core.req = s.core.req) ∧
    (s.core.status.seq = .registering → s.core.seqInfo.retryUsed = true →
      ∃ t, step s = .next t ∧
        t.core.status = { s.core.status with seq := .awaitRegistrationSettle, phase := .wait } ∧
        t.core.seqInfo = { s.core.seqInfo with toReg := true } ∧
        t.core.exch = { s.core.exch with rxOpen := false, timer := 0 } ∧
        t.core.rxBytes = bs ∧ OnlyRxbufChanged s.core t.core ∧ (e = .tick → t.core.buf = s.core.buf) ∧
        t.core.txidLast = s.core.txidLast ∧ t.core.req = s.core.req) ∧
    (s.core.status.seq = .transferring → s.core.seqInfo.retryUsed = true →
      ∃ t, step s = .next t ∧
        t.core.status = { s.core.status with seq := .awaitTransferSettle, phase := .wait } ∧
        t.core.seqInfo = { s.core.seqInfo with toXfer := true } ∧
        t.core.exch = { s.core.exch with rxOpen := false, timer := 0 } ∧
        t.core.rxBytes = bs ∧ OnlyRxbufChanged s.core t.core ∧ (e = .tick → t.core.buf = s.core.buf) ∧
        t.core.txidLast = s.core.txidLast ∧ t.core.req = s.core.req)

/-- R258, R260: every poll is counted, a silent one too. It takes the balance that its response shows, if
the body of R200 succeeds on it, and no other; it ends the sequence in Done exactly if that balance is
confirmed (R259); otherwise the last poll of the budget ends it in DoneUnconfirmed, and an earlier one
waits for the next. No other step enters Done. -/
def Obligations.SilentPollIsCounted : Prop :=
  (∀ (s : State) (e : Event) (rest : List Event) (bs : List Byte), s.events = e :: rest →
    s.core.status.seq = .verifyingBalance → s.core.exch.rxOpen = true →
    s.core.exch.owner = .sequencer → EndsReadAttempt s.core e bs →
    ∃ t, step s = .next t ∧ t.core.exch.rxOpen = false ∧ t.core.rxBytes = bs ∧
      OnlyRxbufChanged s.core t.core ∧ (e = .tick → t.core.buf = s.core.buf) ∧
      t.core.pre = s.core.pre ∧ t.core.preValid = s.core.preValid ∧ t.core.req = s.core.req ∧
      t.core.seqInfo = { s.core.seqInfo with pollsDone := s.core.seqInfo.pollsDone + 1 } ∧
      (shownBalance s.core.cfg.addr bs = none →
        t.core.bal = s.core.bal ∧ t.core.balStat = s.core.balStat) ∧
      (∀ b, shownBalance s.core.cfg.addr bs = some b → t.core.bal = b ∧
        t.core.balStat = { lock := byteAt bs s.params.lockOff.val,
                           aft := byteAt bs s.params.aftOff.val, valid := true }) ∧
      (PollConfirms s.core bs → t.core.status = { s.core.status with
        seq := .done, phase := .none, cancelPending := false, err := .ok }) ∧
      (¬ PollConfirms s.core bs →
        s.core.cfg.polls.toNat ≤ (s.core.seqInfo.pollsDone + 1).toNat →
        t.core.status = { s.core.status with
          seq := .doneUnconfirmed, phase := .none, cancelPending := false, err := .ok }) ∧
      (¬ PollConfirms s.core bs →
        (s.core.seqInfo.pollsDone + 1).toNat < s.core.cfg.polls.toNat →
        t.core.status = { s.core.status with phase := .wait } ∧ t.core.exch.timer = 0)) ∧
  (∀ s t : State, s.core.status.seq ≠ .done → step s = .next t → t.core.status.seq = .done →
    s.core.status.seq = .verifyingBalance ∧ t.core.confirmed = true)

/-- R259: the confirmation test. -/
def Obligations.ConfirmedMeansTheExactIncrease : Prop :=
  ∀ c : CoreState, c.confirmed = true ↔ c.preValid = true ∧
    match c.req.type with
    | .cashable => c.bal.cash.toNat = c.pre.cash.toNat + c.req.amount.toNat
    | .restricted => c.bal.rest.toNat = c.pre.rest.toNat + c.req.amount.toNat
    | .nonRestricted => c.bal.nonr.toNat = c.pre.nonr.toNat + c.req.amount.toNat

/-- R226, R261: CHAN_ERR ends an exchange in its write phase or its read attempt with TransportError,
and has no effect otherwise. -/
def Obligations.ChannelErrorEndsTheExchange : Prop :=
  (∀ (s : State) (rest : List Event), s.events = .chanErr :: rest →
    (s.core.status.phase = .tx ∨ s.core.exch.rxOpen = true) → s.core.exch.owner = .standalone →
    step s = .next ((s.withEvents rest).withCore ((s.core.withStatus { s.core.status with
      err := .transportError, phase := .none }).withExch
      { s.core.exch with xchgAct := false, rxOpen := false }))) ∧
  (∀ (s : State) (rest : List Event), s.events = .chanErr :: rest →
    (s.core.status.phase = .tx ∨ s.core.exch.rxOpen = true) → s.core.exch.owner = .sequencer →
    step s = .next ((s.withEvents rest).withCore ((s.core.withStatus { s.core.status with
      err := .transportError, seq := .failed, phase := .none, cancelPending := false,
      failKind := .transportError }).withExch { s.core.exch with rxOpen := false }))) ∧
  (∀ (s : State) (rest : List Event), s.events = .chanErr :: rest →
    s.core.status.phase ≠ .tx → s.core.exch.rxOpen = false → step s = .next (s.withEvents rest))

/-- R32: a tick adds 1, saturating, to the ELAPSED register of the current state and to no other;
AFT_START from Idle clears all five. -/
def Obligations.ElapsedCountsTheCurrentState : Prop :=
  (∀ (s t : State) (rest : List Event), s.events = .tick :: rest → step s = .next t →
    (∀ (q : SeqState) (f : Elapsed → Word32),
      ((q = .registering ∧ f = Elapsed.reg) ∨
        (q = .awaitRegistrationSettle ∧ f = Elapsed.regSettle) ∨
        (q = .transferring ∧ f = Elapsed.xfer) ∨
        (q = .awaitTransferSettle ∧ f = Elapsed.xferSettle) ∨
        (q = .verifyingBalance ∧ f = Elapsed.verify)) →
      (f t.core.elapsed).toNat = if s.core.status.seq = q
        then min ((f s.core.elapsed).toNat + 1) (2 ^ 32 - 1) else (f s.core.elapsed).toNat)) ∧
  (∀ (ty : TransferType) (s t : State), s.core.active = false → s.core.status.seq = .idle →
    exec (.aftStart ty) s = .next t →
    t.core.elapsed = { reg := 0, regSettle := 0, xfer := 0, xferSettle := 0, verify := 0 })

/-- R23: a host write of a register takes effect only while the CORE is not active. -/
def Obligations.RegisterWritesAreLockedWhileActive : Prop :=
  ∀ (s : State) (n : BitVec 6) (v : Word64) (rest : List Event), s.events = .write n v :: rest →
    (s.core.active = true → step s = .next (s.withEvents rest)) ∧
    (s.core.active = false →
      step s = .next ((s.withEvents rest).withCore (s.core.writeReg n v)))

/-- R22, R25: what a host write of a register does while the CORE is not active: a writable register
reads back the low bits of its field, a WARL register the value its mapping gives, every other register
reads as before, and an unassigned or read-only number changes nothing; unassigned numbers read 0. The
last clauses say which field each number reads; the words of several fields are those of
StatusWordFields. -/
def Obligations.RegisterMapReadsAndWrites : Prop :=
  (∀ (c : CoreState) (n : Nat) (w : Nat) (v : Word64), c.active = false →
    (n, w) ∈ [(0x01, 8), (0x02, 32), (0x03, 64), (0x05, 16), (0x06, 32), (0x07, 32), (0x08, 32),
      (0x09, 32), (0x0C, 8), (0x10, 64), (0x11, 64), (0x12, 32)] →
    (CoreState.readReg (c.writeReg (BitVec.ofNat 6 n) v) (BitVec.ofNat 6 n)).toNat =
      v.toNat % 2 ^ w) ∧
  (∀ (c : CoreState) (n m : BitVec 6) (v : Word64), n ≠ m →
    CoreState.readReg (c.writeReg n v) m = c.readReg m) ∧
  (∀ (c : CoreState) (n : BitVec 6) (v : Word64),
    n.toNat ∉ [0x00, 0x01, 0x02, 0x03, 0x04, 0x05, 0x06, 0x07, 0x08, 0x09, 0x0A, 0x0B, 0x0C, 0x0D,
      0x0E, 0x10, 0x11, 0x12, 0x18, 0x19, 0x1A, 0x1B, 0x1C, 0x20, 0x21, 0x22, 0x23, 0x24, 0x25, 0x26,
      0x27, 0x28, 0x29, 0x2A, 0x2B, 0x2C, 0x30, 0x31, 0x32, 0x33, 0x34, 0x38] →
    c.readReg n = 0 ∧ c.writeReg n v = c) ∧
  (∀ (c : CoreState) (n : BitVec 6) (v : Word64),
    n.toNat ∉ [0x01, 0x02, 0x03, 0x04, 0x05, 0x06, 0x07, 0x08, 0x09, 0x0A, 0x0B, 0x0C, 0x0E, 0x10,
      0x11, 0x12] → c.writeReg n v = c) ∧
  (∀ (c : CoreState) (v : Word64), c.active = false →
    ((c.writeReg 0x04 v).readReg 0x04).toNat = min (v.toNat % 16) 8 ∧
    ((c.writeReg 0x0A v).readReg 0x0A).toNat =
      (if 1 ≤ v.toNat % 256 then v.toNat % 256 else 1) ∧
    ((c.writeReg 0x0B v).readReg 0x0B).toNat =
      (if 1 ≤ v.toNat % 256 then v.toNat % 256 else 1) ∧
    ((c.writeReg 0x0E v).readReg 0x0E).toNat = min (v.toNat % 512) 260) ∧
  (∀ c : CoreState,
    (c.readReg 0x01).toNat = c.cfg.addr.toNat ∧ (c.readReg 0x02).toNat = c.cfg.asset.toNat ∧
    c.readReg 0x03 = c.cfg.posId ∧ (c.readReg 0x04).toNat = c.cfg.posLen.toNat ∧
    (c.readReg 0x05).toNat = c.cfg.poolId.toNat ∧ (c.readReg 0x06).toNat = c.cfg.tRead.toNat ∧
    (c.readReg 0x07).toNat = c.cfg.tRegSettle.toNat ∧
    (c.readReg 0x08).toNat = c.cfg.tXferSettle.toNat ∧
    (c.readReg 0x09).toNat = c.cfg.tPoll.toNat ∧ (c.readReg 0x0A).toNat = c.cfg.polls.toNat ∧
    (c.readReg 0x0B).toNat = c.cfg.mcap.toNat ∧ (c.readReg 0x0C).toNat = c.buf.plen.toNat ∧
    (c.readReg 0x0D).toNat = c.buf.txlen.toNat ∧ (c.readReg 0x0E).toNat = c.buf.rxlen.toNat ∧
    c.readReg 0x10 = c.opnd.value ∧ c.readReg 0x11 = c.opnd.bcd ∧
    (c.readReg 0x12).toNat = c.opnd.txid.toNat) ∧
  (∀ c : CoreState,
    c.readReg 0x00 = c.statusWord ∧ (c.readReg 0x18).toNat = c.res.crc.toNat ∧
    c.readReg 0x19 = c.res.bcd ∧ c.readReg 0x1A = c.res.value ∧
    c.readReg 0x1B = c.res.frameWord ∧ (c.readReg 0x1C).toNat = c.buf.mcount.toNat ∧
    c.readReg 0x20 = c.bal.cash ∧ c.readReg 0x21 = c.bal.rest ∧ c.readReg 0x22 = c.bal.nonr ∧
    c.readReg 0x23 = c.balStat.word ∧ c.readReg 0x24 = c.pre.cash ∧
    c.readReg 0x25 = c.pre.rest ∧ c.readReg 0x26 = c.pre.nonr ∧
    (c.readReg 0x27).toNat = (if c.preValid then 1 else 0) ∧ c.readReg 0x28 = c.req.amount ∧
    (c.readReg 0x29).toNat =
      (match c.req.type with | .cashable => 0 | .restricted => 1 | .nonRestricted => 2) ∧
    (c.readReg 0x2A).toNat = c.req.txid.toNat ∧ (c.readReg 0x2B).toNat = c.txidLast.toNat ∧
    c.readReg 0x2C = c.seqInfo.word ∧ (c.readReg 0x30).toNat = c.elapsed.reg.toNat ∧
    (c.readReg 0x31).toNat = c.elapsed.regSettle.toNat ∧
    (c.readReg 0x32).toNat = c.elapsed.xfer.toNat ∧
    (c.readReg 0x33).toNat = c.elapsed.xferSettle.toNat ∧
    (c.readReg 0x34).toNat = c.elapsed.verify.toNat ∧
    (c.readReg 0x38).toNat = c.exch.timer.toNat)

/-- R41: host accesses to the memories: a read gives the byte, or for MTAB the entry, that the memory
holds; reads beyond the size give 0x00 (for MTAB V 0, VAL 0), writes beyond it, to TXBUF or MTAB, or
while the CORE is active have no effect; a write inside stores its byte and changes no other, no other
memory, no register, and nothing else of the CORE. -/
def Obligations.HostMemoryAccesses : Prop :=
  (∀ (c : CoreState) (i : Nat),
    c.readMem .pbuf i = .byte (Memory.read c.buf.pbuf i) ∧
    c.readMem .txbuf i = .byte (Memory.read c.buf.txbuf i) ∧
    c.readMem .rxbuf i = .byte (Memory.read c.buf.rxbuf i) ∧
    c.readMem .keybuf i = .byte (Memory.read c.buf.keybuf i) ∧
    (∀ v, MeterTable.find c.buf.mtab i = some v → c.readMem .mtab i = .meter true v) ∧
    (MeterTable.find c.buf.mtab i = none → c.readMem .mtab i = .meter false 0)) ∧
  (∀ (c : CoreState) (i : Nat), MemoriesCanonical c → MeterTable.wf c.buf.mtab = true →
    (256 ≤ i → c.readMem .pbuf i = .byte 0 ∧ c.readMem .mtab i = .meter false 0) ∧
    (260 ≤ i → c.readMem .txbuf i = .byte 0 ∧ c.readMem .rxbuf i = .byte 0) ∧
    (20 ≤ i → c.readMem .keybuf i = .byte 0)) ∧
  (∀ (p : Params) (c : CoreState) (i : Nat) (b : Byte),
    c.writeMem p .txbuf i b = c ∧ c.writeMem p .mtab i b = c ∧
    (256 ≤ i → c.writeMem p .pbuf i b = c) ∧ (260 ≤ i → c.writeMem p .rxbuf i b = c) ∧
    (20 ≤ i → c.writeMem p .keybuf i b = c) ∧
    (c.active = true → ∀ m, c.writeMem p m i b = c)) ∧
  (∀ (p : Params) (c : CoreState) (i j : Nat) (b : Byte), MemoriesCanonical c → c.active = false →
    (i < 256 → (c.writeMem p .pbuf i b).readMem .pbuf j =
      if j = i then .byte b else c.readMem .pbuf j) ∧
    (i < 260 → (c.writeMem p .rxbuf i b).readMem .rxbuf j =
      if j = i then .byte b else c.readMem .rxbuf j) ∧
    (i < 20 → (c.writeMem p .keybuf i b).readMem .keybuf j =
      if j = i then .byte b else c.readMem .keybuf j)) ∧
  (∀ (p : Params) (c : CoreState) (m : MemSpace) (i : Nat) (b : Byte),
    (∀ (m' : MemSpace) (j : Nat), m' ≠ m → (c.writeMem p m i b).readMem m' j = c.readMem m' j) ∧
    (∀ n : BitVec 6, (c.writeMem p m i b).readReg n = c.readReg n) ∧
    (c.writeMem p m i b).withBuf c.buf = c) ∧
  (∀ (s : State) (m : MemSpace) (i : Nat) (b : Byte) (rest : List Event),
    s.events = .writeB m i b :: rest →
    step s = .next ((s.withEvents rest).withCore (s.core.writeMem s.params m i b)))

/-- R67, R230: a read answers the host and changes nothing of the CORE. -/
def Obligations.ReadsHaveNoSideEffect : Prop :=
  (∀ (s : State) (n : BitVec 6) (rest : List Event), s.events = .read n :: rest →
    step s = .next ((s.withEvents rest).withHostRead (.register (s.core.readReg n)))) ∧
  (∀ (s : State) (m : MemSpace) (i : Nat) (rest : List Event), s.events = .readB m i :: rest →
    step s = .next ((s.withEvents rest).withHostRead (s.core.readMem m i)))

/-- R22, R26, R31, R202: the fields of STATUS, SEQ_INFO, BAL_STAT and RES_FRAME at their bits, all other
bits 0; BUSY is 1 exactly while the CORE is active (R21). ERR and FAIL_KIND hold the codes of R300,
SEQ_STATE those of R30, PHASE those of R26. -/
def Obligations.StatusWordFields : Prop :=
  (∀ c : CoreState,
    c.statusWord.extractLsb' 0 4 = c.status.err.code ∧
    (c.statusWord.getLsbD 4 = true ↔
      (c.exch.xchgAct = true ∨ 1 ≤ c.status.seq.code.toNat ∧ c.status.seq.code.toNat ≤ 5)) ∧
    c.statusWord.getLsbD 5 = c.status.partialResult ∧
    c.statusWord.extractLsb' 6 2 = 0 ∧
    c.statusWord.extractLsb' 8 4 = c.status.seq.code ∧
    c.statusWord.extractLsb' 12 2 = c.status.phase.code ∧
    c.statusWord.getLsbD 14 = c.status.cancelPending ∧
    c.statusWord.getLsbD 15 = c.exch.xchgAct ∧
    c.statusWord.extractLsb' 16 4 = c.status.failKind.code ∧
    c.statusWord.extractLsb' 20 44 = 0) ∧
  (∀ q : SeqInfo,
    q.word.getLsbD 0 = q.retryUsed ∧ q.word.getLsbD 1 = q.toReg ∧ q.word.getLsbD 2 = q.toXfer ∧
    q.word.getLsbD 3 = q.regReplied ∧ q.word.getLsbD 4 = q.xferReplied ∧
    q.word.extractLsb' 5 3 = 0 ∧ q.word.extractLsb' 8 8 = q.pollsDone ∧
    q.word.extractLsb' 16 48 = 0) ∧
  (∀ b : BalanceStatus,
    b.word.extractLsb' 0 8 = b.lock ∧ b.word.extractLsb' 8 8 = b.aft ∧
    b.word.getLsbD 16 = b.valid ∧ b.word.extractLsb' 17 47 = 0) ∧
  (∀ r : ResultRegs,
    r.frameWord.extractLsb' 0 8 = r.frameAddr ∧ r.frameWord.extractLsb' 8 8 = r.frameCmd ∧
    r.frameWord.extractLsb' 16 8 = r.frameLen ∧ r.frameWord.extractLsb' 24 40 = 0) ∧
  (∀ e : ErrCode, e.code.toNat = match e with
    | .ok => 0 | .transportError => 1 | .frameError => 2 | .encodingError => 3
    | .responseTooShort => 4 | .sequenceTimeout => 5 | .digitError => 6 | .illegalOp => 7
    | .busy => 8 | .cancelled => 9) ∧
  (∀ q : SeqState, q.code.toNat = match q with
    | .idle => 0 | .registering => 1 | .awaitRegistrationSettle => 2 | .transferring => 3
    | .awaitTransferSettle => 4 | .verifyingBalance => 5 | .done => 6 | .doneUnconfirmed => 7
    | .failed => 8) ∧
  (∀ p : Phase, p.code.toNat = match p with
    | .none => 0 | .tx => 1 | .rx => 2 | .wait => 3)

/-- R333, R24, R42, R45: RESET, from any state, and what it leaves. -/
def Obligations.ResetValues : Prop :=
  (∀ (s : State) (rest : List Event), s.events = .reset :: rest →
    ∃ t, step s = .next t ∧ t = (s.withEvents rest).withCore State.reset.core) ∧
  (∀ n : BitVec 6, State.reset.core.readReg n =
    if n = 0x06 then 1000 else if n = 0x07 then 1000 else if n = 0x08 then 2000
    else if n = 0x09 then 2000 else if n = 0x0A then 5 else if n = 0x0B then 15 else 0) ∧
  (∀ (m : MemSpace) (i : Nat), State.reset.core.readMem m i =
    if m = .mtab then .meter false 0 else .byte 0) ∧
  State.reset.core.exch =
    { txPos := 0, xchgAct := false, owner := .standalone, rxOpen := false, timer := 0 }

/-! Invariants and whole-machine rules. -/

/-- The state after reset meets every invariant below. -/
def Obligations.ResetMeetsTheInvariants : Prop :=
  MemoriesCanonical State.reset.core ∧ MetersCounted State.reset.core ∧
  RegistersLegal State.reset.core ∧ ControlCoherent State.reset.core ∧
  FailKindTruthful State.reset.core ∧ IdRoom State.reset.core

/-- Every step keeps the byte memories in their canonical form, within their sizes (R40, R41). -/
def Obligations.StepsKeepMemoriesCanonical : Prop :=
  ∀ s t : State, MemoriesCanonical s.core → step s = .next t → MemoriesCanonical t.core

/-- Every step keeps MTAB canonical and without code 0x00, and MCOUNT the number of its entries (R44,
R166). -/
def Obligations.StepsKeepMetersCounted : Prop :=
  ∀ s t : State, MetersCounted s.core → step s = .next t → MetersCounted t.core

/-- Every step keeps SEQ_STATE, PHASE, OWNER and the exchange unit coherent (R21, R221 to R228, R241). -/
def Obligations.StepsKeepControlCoherent : Prop :=
  ∀ s t : State, ControlCoherent s.core → step s = .next t → ControlCoherent t.core

/-- Every step keeps the WARL registers, RXLEN and TXLEN in their ranges (R22, R25). -/
def Obligations.StepsKeepRegistersLegal : Prop :=
  ∀ s t : State, ControlCoherent s.core → RegistersLegal s.core → step s = .next t →
    RegistersLegal t.core

/-- R304: FAIL_KIND names the cause in Failed and is 0 elsewhere; entering Failed sets ERR to it; and it
keeps the cause for as long as the sequencer stays Failed. -/
def Obligations.FailKindKeepsTheCause : Prop :=
  ∀ s t : State, ControlCoherent s.core → FailKindTruthful s.core → step s = .next t →
    FailKindTruthful t.core ∧
    (s.core.status.seq ≠ .failed → t.core.status.seq = .failed →
      t.core.status.err = t.core.status.failKind) ∧
    (s.core.status.seq = .failed → t.core.status.seq = .failed →
      t.core.status.failKind = s.core.status.failKind)

/-- R240: the sequencer takes no edge but those listed (RESET apart). -/
def Obligations.SequencerTakesOnlyTheListedEdges : Prop :=
  ∀ s t : State, ControlCoherent s.core → nextIsReset s = false → step s = .next t →
    t.core.status.seq = s.core.status.seq ∨
      SeqEdge s.core.status.seq t.core.status.seq = true

/-- R266 item 4: without CHAN_ERR and AFT_CANCEL an active sequence never becomes Failed: no such step
leads to Failed, and no cancel is pending after it. -/
def Obligations.SequencesFailOnlyForACause : Prop :=
  ∀ s t : State, s.core.status.seq.isActive = true → s.core.status.cancelPending = false →
    s.events.head? ≠ some .chanErr →
    (∀ w, s.events.head? = some (.issue w) → decodeWord w ≠ .ok .aftCancel) →
    step s = .next t →
    t.core.status.seq ≠ .failed ∧ t.core.status.cancelPending = false

/-- R256, R266 item 3: TXID_LAST changes only on the edge into Transferring, by exactly 1 and without
wrapping, and the new id is REQ_TXID; room for it is kept. -/
def Obligations.TransactionIdsAdvanceByOne : Prop :=
  ∀ s t : State, IdRoom s.core → nextIsReset s = false → step s = .next t →
    IdRoom t.core ∧
    ((s.core.status.seq = .awaitRegistrationSettle ∧ t.core.status.seq = .transferring) →
      t.core.txidLast.toNat = s.core.txidLast.toNat + 1 ∧ t.core.req.txid = t.core.txidLast) ∧
    (¬ (s.core.status.seq = .awaitRegistrationSettle ∧ t.core.status.seq = .transferring) →
      t.core.txidLast = s.core.txidLast)

/-- R147: every frame a step writes into TXBUF begins with CFG_ADDR, counts its payload in byte 2 and
ends with the CRC of the rest, low byte first. -/
def Obligations.WrittenFramesKeepTheFrameInvariants : Prop :=
  ∀ s t : State, MemoriesCanonical s.core → nextIsReset s = false → step s = .next t →
    (t.core.buf.txbuf ≠ s.core.buf.txbuf ∨ t.core.buf.txlen ≠ s.core.buf.txlen) →
    t.core.cfg.addr = s.core.cfg.addr ∧ FrameInvariants t.core.cfg.addr t.core.txFrame

/-- R23, R41, R73, R250: while the CORE is active no step but RESET changes the configuration, the
operands, PBUF, KEYBUF, the results, the meter table, the snapshot, or the amount and the type of the
request; and no step but RESET changes a frame while it is transmitted. -/
def Obligations.ActiveCoreIsLocked : Prop :=
  ∀ s t : State, s.core.active = true → nextIsReset s = false → step s = .next t →
    t.core.cfg = s.core.cfg ∧ t.core.opnd = s.core.opnd ∧ t.core.res = s.core.res ∧
    t.core.buf.pbuf = s.core.buf.pbuf ∧ t.core.buf.plen = s.core.buf.plen ∧
    t.core.buf.keybuf = s.core.buf.keybuf ∧ t.core.buf.mtab = s.core.buf.mtab ∧
    t.core.buf.mcount = s.core.buf.mcount ∧
    t.core.pre = s.core.pre ∧ t.core.preValid = s.core.preValid ∧
    t.core.req.amount = s.core.req.amount ∧ t.core.req.type = s.core.req.type ∧
    (s.core.status.phase = .tx → s.core.exch.rxOpen = false →
      t.core.buf.txbuf = s.core.buf.txbuf ∧ t.core.buf.txlen = s.core.buf.txlen)

/-- R204: BAL_* and BAL_STAT change only by a successful parse of the response in RXBUF, of a BAL_PARSE
or of a poll (RESET apart). -/
def Obligations.BalancesChangeOnlyByASuccessfulParse : Prop :=
  ∀ s t : State, nextIsReset s = false → step s = .next t →
    (t.core.bal = s.core.bal ∧ t.core.balStat = s.core.balStat) ∨
    ((s.core.status.seq = .verifyingBalance ∨
        ∃ w, s.events.head? = some (.issue w) ∧ decodeWord w = .ok .balParse) ∧
      balancePrefixOk s.params t.core.cfg.addr t.core.rxBytes = true ∧
      balanceFields s.params t.core.rxBytes = some t.core.bal ∧
      t.core.balStat = { lock := byteAt t.core.rxBytes s.params.lockOff.val,
                         aft := byteAt t.core.rxBytes s.params.aftOff.val, valid := true })

/-- R266 item 4, end to end: from Idle with a valid snapshot, with both steps acknowledged, both settle
waits run out, and a first poll that shows exactly the increase, the sequence ends in Done. -/
def Obligations.AcknowledgedTransferEndsInDone : Prop :=
  ∀ (s : State) (ty : TransferType) (ack₁ ack₂ resp : List Byte) (b : Balance),
    s.core.active = false → s.core.status.seq = .idle → MemoriesCanonical s.core →
    s.core.opnd.value.toNat < 10 ^ 10 → s.core.txidLast ≠ BitVec.allOnes 32 →
    s.core.balStat.valid = true →
    s.core.cfg.tRegSettle.toNat + 1 < 2 ^ 32 → s.core.cfg.tXferSettle.toNat + 1 < 2 ^ 32 →
    parseOk ack₁ = true → parseOk ack₂ = true → parseOk resp = true →
    balancePrefixOk s.params s.core.cfg.addr resp = true →
    balanceFields s.params resp = some b →
    (b.field ty).toNat = (s.core.bal.field ty).toNat + s.core.opnd.value.toNat →
    s.events = [.issue (opWord 0x20 ty.arg), .txFrame, .rxFrame ack₁]
      ++ List.replicate (s.core.cfg.tRegSettle.toNat + 1) Event.tick
      ++ [.txFrame, .rxFrame ack₂]
      ++ List.replicate (s.core.cfg.tXferSettle.toNat + 1) Event.tick
      ++ [.txFrame, .rxFrame resp] →
    ∃ t, runSteps s.events.length s = .next t ∧ t.core.status.seq = .done ∧
      t.core.status.err = .ok ∧ t.core.status.failKind = .ok ∧ t.core.active = false ∧
      t.core.bal = b ∧ t.core.pre = s.core.bal ∧ t.core.txidLast = s.core.txidLast + 1 ∧
      t.core.seqInfo.regReplied = true ∧ t.core.seqInfo.xferReplied = true ∧
      t.core.seqInfo.pollsDone = 1 ∧ t.core.rxBytes = resp
end

