-- ==== Sys2Proof/Laws/Memory.lean ====
section
/-! SUPPORT. The laws of the memories and of the meter table: a read after a write, a read elsewhere,
and that every operation keeps the canonical form. -/

namespace Sys2Proof.Machine

-- One proof at a time, so that the compile stays within the memory it is given.
set_option Elab.async false

@[simp] theorem Memory.read_nil (i : Nat) : Memory.read [] i = 0 := rfl

/-- A canonical memory above a bound is one above any smaller bound. -/
theorem Memory.wfFrom_mono {size lo lo' : Nat} {m : Memory} (h : Memory.wfFrom size lo m = true)
    (hle : lo' ≤ lo) : Memory.wfFrom size lo' m = true := by
  cases m with
  | nil => rfl
  | cons e m =>
    simp only [Memory.wfFrom, Bool.and_eq_true, decide_eq_true_eq] at h ⊢
    exact ⟨⟨⟨by omega, h.1.1.2⟩, h.1.2⟩, h.2⟩

/-- Nothing is listed below the bound. -/
theorem Memory.read_below {size lo : Nat} {m : Memory} (h : Memory.wfFrom size lo m = true) {i : Nat}
    (hi : i < lo) : Memory.read m i = 0 := by
  induction m generalizing lo with
  | nil => rfl
  | cons e m ih =>
    simp only [Memory.wfFrom, Bool.and_eq_true, decide_eq_true_eq] at h
    have hne : ¬ e.1 = i := by omega
    simp only [Memory.read, hne, if_false]
    exact ih h.2 (by omega)

/-- Nothing is listed at or beyond the size (R41). -/
theorem Memory.read_beyond {size lo : Nat} {m : Memory} (h : Memory.wfFrom size lo m = true) {i : Nat}
    (hi : size ≤ i) : Memory.read m i = 0 := by
  induction m generalizing lo with
  | nil => rfl
  | cons e m ih =>
    simp only [Memory.wfFrom, Bool.and_eq_true, decide_eq_true_eq] at h
    have hne : ¬ e.1 = i := by omega
    simp only [Memory.read, hne, if_false]
    exact ih h.2

/-- Replacing a byte keeps the canonical form. -/
theorem Memory.insert_wfFrom {size lo : Nat} {m : Memory} (h : Memory.wfFrom size lo m = true)
    {i : Nat} (hlo : lo ≤ i) (hi : i < size) (b : Byte) :
    Memory.wfFrom size lo (Memory.insert m i b) = true := by
  induction m generalizing lo with
  | nil =>
    by_cases hb : b = 0#8 <;> simp [Memory.insert, Memory.wfFrom, hb, hlo, hi]
  | cons e m ih =>
    obtain ⟨a, c⟩ := e
    simp only [Memory.wfFrom, Bool.and_eq_true, decide_eq_true_eq] at h
    obtain ⟨⟨⟨h1, h2⟩, h3⟩, h4⟩ := h
    by_cases hlt : i < a
    · by_cases hb : b = 0#8
      · simp [Memory.insert, hlt, hb, Memory.wfFrom, h1, h2, h4]
        simpa using h3
      · simp [Memory.insert, hlt, hb, Memory.wfFrom, hlo, hi, h2, h4]
        exact by simpa using h3
    · by_cases heq : i = a
      · subst heq
        by_cases hb : b = 0#8
        · simpa [Memory.insert, hb] using Memory.wfFrom_mono h4 (by omega)
        · simp [Memory.insert, hb, Memory.wfFrom, hlo, hi, h4]
      · have := ih h4 (by omega)
        simp [Memory.insert, hlt, heq, Memory.wfFrom, h1, h2, this]
        simpa using h3

/-- What a memory holds after one byte was replaced. -/
theorem Memory.read_insert {size lo : Nat} {m : Memory} (h : Memory.wfFrom size lo m = true)
    {i : Nat} (b : Byte) (j : Nat) :
    Memory.read (Memory.insert m i b) j = if j = i then b else Memory.read m j := by
  induction m generalizing lo with
  | nil =>
    by_cases hb : b = 0#8 <;> by_cases hj : j = i <;>
      simp [Memory.insert, Memory.read, hb, hj, eq_comm (a := i)]
  | cons e m ih =>
    obtain ⟨a, c⟩ := e
    simp only [Memory.wfFrom, Bool.and_eq_true, decide_eq_true_eq] at h
    obtain ⟨⟨⟨h1, h2⟩, h3⟩, h4⟩ := h
    by_cases hlt : i < a
    · by_cases hb : b = 0#8
      · by_cases hj : j = i
        · subst hj
          have : ¬ a = j := by omega
          simp [Memory.insert, hlt, hb, Memory.read, this]
          exact Memory.read_below h4 (by omega)
        · simp [Memory.insert, hlt, hb, hj]
      · by_cases hj : j = i
        · subst hj; simp [Memory.insert, hlt, hb, Memory.read]
        · have : ¬ i = j := fun h => hj h.symm
          simp [Memory.insert, hlt, hb, hj, Memory.read, this]
    · by_cases heq : i = a
      · subst heq
        by_cases hj : j = i
        · subst hj
          by_cases hb : b = 0#8
          · simp [Memory.insert, hb]
            exact Memory.read_below h4 (by omega)
          · simp [Memory.insert, hb, Memory.read]
        · have : ¬ i = j := fun h => hj h.symm
          by_cases hb : b = 0#8 <;> simp [Memory.insert, hb, hj, Memory.read, this]
      · by_cases hj : a = j
        · subst hj
          have : ¬ a = i := fun h => heq h.symm
          simp [Memory.insert, hlt, heq, Memory.read, this]
        · simp [Memory.insert, hlt, heq, Memory.read, hj, ih h4]

/-- A host or CORE write keeps the canonical form. -/
theorem Memory.write_wf {size : Nat} {m : Memory} (h : Memory.wf size m = true) (i : Nat) (b : Byte) :
    Memory.wf size (Memory.write size m i b) = true := by
  unfold Memory.write
  split
  · exact Memory.insert_wfFrom h (Nat.zero_le _) ‹_› b
  · exact h

/-- A read after a write: the written byte there, if it lies inside the size, and the old one
elsewhere (R41). -/
theorem Memory.read_write {size : Nat} {m : Memory} (h : Memory.wf size m = true) (i : Nat) (b : Byte)
    (j : Nat) :
    Memory.read (Memory.write size m i b) j = if j = i ∧ i < size then b else Memory.read m j := by
  unfold Memory.write
  by_cases hi : i < size
  · simp [hi, Memory.read_insert h]
  · simp [hi]

/-- MemWrite keeps the canonical form. -/
theorem Memory.writeRange_wf {size : Nat} {m : Memory} (h : Memory.wf size m = true) (i : Nat)
    (bs : List Byte) : Memory.wf size (Memory.writeRange size m i bs) = true := by
  induction bs generalizing m i with
  | nil => exact h
  | cons b bs ih => exact ih (Memory.write_wf h i b) (i + 1)

/-- A read after MemWrite: the bytes written inside the range, the old ones elsewhere. -/
theorem Memory.read_writeRange {size : Nat} {m : Memory} (h : Memory.wf size m = true) (i : Nat)
    (bs : List Byte) (hfit : i + bs.length ≤ size) (j : Nat) :
    Memory.read (Memory.writeRange size m i bs) j =
      if i ≤ j ∧ j < i + bs.length then bs.getD (j - i) 0 else Memory.read m j := by
  induction bs generalizing m i with
  | nil =>
    have : ¬ (i ≤ j ∧ j < i + 0) := by omega
    simp only [Memory.writeRange, List.length_nil, this, if_false]
  | cons b bs ih =>
    simp only [List.length_cons] at hfit
    simp only [Memory.writeRange]
    rw [ih (Memory.write_wf h i b) (i + 1) (by omega), Memory.read_write h]
    by_cases hj : j = i
    · subst hj
      have h1 : ¬ (j + 1 ≤ j ∧ j < j + 1 + bs.length) := by omega
      have h2 : j ≤ j ∧ j < j + (b :: bs).length := by simp
      have h3 : j < size := by omega
      simp [h3]
    · by_cases hr : i + 1 ≤ j ∧ j < i + 1 + bs.length
      · have h2 : i ≤ j ∧ j < i + (b :: bs).length := by simp only [List.length_cons]; omega
        have h3 : j - i = (j - (i + 1)) + 1 := by omega
        rw [if_pos hr, if_pos h2, h3, List.getD_cons_succ]
      · have h2 : ¬ (i ≤ j ∧ j < i + (b :: bs).length) := by simp only [List.length_cons]; omega
        rw [if_neg hr, if_neg h2, if_neg (fun h => hj h.1)]

@[simp] theorem Memory.readRange_length (m : Memory) (i n : Nat) :
    (Memory.readRange m i n).length = n := by simp [Memory.readRange]

/-- What MemWrite wrote is what MemRead reads. -/
theorem Memory.readRange_writeRange {size : Nat} {m : Memory} (h : Memory.wf size m = true)
    (bs : List Byte) (hfit : bs.length ≤ size) :
    Memory.readRange (Memory.writeRange size m 0 bs) 0 bs.length = bs := by
  apply List.ext_getElem
  · simp
  · intro n h1 h2
    simp only [Memory.readRange, List.getElem_map, List.getElem_range, Nat.zero_add]
    rw [Memory.read_writeRange h 0 bs (by omega)]
    simp [h2]

/-- The meter table above a bound is one above any smaller bound. -/
theorem MeterTable.wfFrom_mono {lo lo' : Nat} {t : MeterTable} (h : MeterTable.wfFrom lo t = true)
    (hle : lo' ≤ lo) : MeterTable.wfFrom lo' t = true := by
  cases t with
  | nil => rfl
  | cons e t =>
    simp only [MeterTable.wfFrom, Bool.and_eq_true, decide_eq_true_eq] at h ⊢
    exact ⟨⟨by omega, h.1.2⟩, h.2⟩

/-- Storing an entry keeps the canonical form. -/
theorem MeterTable.set_wfFrom {lo : Nat} {t : MeterTable} (h : MeterTable.wfFrom lo t = true)
    {c : Nat} (hlo : lo ≤ c) (hc : c < Config.mtabSize) (v : Word64) :
    MeterTable.wfFrom lo (MeterTable.set t c v) = true := by
  induction t generalizing lo with
  | nil => simp [MeterTable.set, MeterTable.wfFrom, hlo, hc]
  | cons e t ih =>
    obtain ⟨a, w⟩ := e
    simp only [MeterTable.wfFrom, Bool.and_eq_true, decide_eq_true_eq] at h
    obtain ⟨⟨h1, h2⟩, h3⟩ := h
    by_cases hlt : c < a
    · simp [MeterTable.set, hlt, MeterTable.wfFrom, hlo, hc, h2, h3]
    · by_cases heq : c = a
      · subst heq; simp [MeterTable.set, MeterTable.wfFrom, h1, h2, h3]
      · simp [MeterTable.set, hlt, heq, MeterTable.wfFrom, h1, h2, ih h3 (by omega)]

/-- What the table holds after an entry was stored: the new value there, the old ones elsewhere (R44). -/
theorem MeterTable.find_set (t : MeterTable) (c : Nat) (v : Word64) (d : Nat) :
    MeterTable.find (MeterTable.set t c v) d = if d = c then some v else MeterTable.find t d := by
  induction t with
  | nil =>
    by_cases h : d = c
    · simp [MeterTable.set, MeterTable.find, h]
    · simp [MeterTable.set, MeterTable.find, h, eq_comm (a := c)]
  | cons e t ih =>
    obtain ⟨a, w⟩ := e
    by_cases hd : d = c
    · subst hd
      by_cases hlt : d < a
      · simp [MeterTable.set, hlt, MeterTable.find]
      · by_cases heq : d = a
        · simp [MeterTable.set, heq, MeterTable.find]
        · have : ¬ a = d := fun e => heq e.symm
          simp [MeterTable.set, hlt, heq, MeterTable.find, this, ih]
    · have hd' : ¬ c = d := fun e => hd e.symm
      by_cases hlt : c < a
      · simp [MeterTable.set, hlt, MeterTable.find, hd, hd']
      · by_cases heq : c = a
        · subst heq; simp [MeterTable.set, MeterTable.find, hd, hd']
        · simp [MeterTable.set, hlt, heq, MeterTable.find, hd, ih]

/-- Reset's memories are in canonical form. -/
theorem reset_memories_wf (size : Nat) : Memory.wf size [] = true := rfl

end Sys2Proof.Machine
end

