-- ==== Sys2Proof/Laws/State.lean ====
section
/-! SUPPORT. One lemma per field and update of the two state records, each true by rfl, so that no
later proof unfolds a record update. -/

namespace Sys2Proof

/-- An argument of a row to which R7 gives a value is that value. -/
@[simp] theorem Fixed.val_eq {α : Type} {v : α} (r : Fixed v) : r.val = v := r.property

end Sys2Proof

namespace Sys2Proof.Machine

@[simp] theorem CoreState.withStatus_status (s : CoreState) (x : Status) : (s.withStatus x).status = x := rfl
@[simp] theorem CoreState.withStatus_cfg (s : CoreState) (x : Status) : (s.withStatus x).cfg = s.cfg := rfl
@[simp] theorem CoreState.withStatus_opnd (s : CoreState) (x : Status) : (s.withStatus x).opnd = s.opnd := rfl
@[simp] theorem CoreState.withStatus_res (s : CoreState) (x : Status) : (s.withStatus x).res = s.res := rfl
@[simp] theorem CoreState.withStatus_buf (s : CoreState) (x : Status) : (s.withStatus x).buf = s.buf := rfl
@[simp] theorem CoreState.withStatus_bal (s : CoreState) (x : Status) : (s.withStatus x).bal = s.bal := rfl
@[simp] theorem CoreState.withStatus_balStat (s : CoreState) (x : Status) : (s.withStatus x).balStat = s.balStat := rfl
@[simp] theorem CoreState.withStatus_pre (s : CoreState) (x : Status) : (s.withStatus x).pre = s.pre := rfl
@[simp] theorem CoreState.withStatus_preValid (s : CoreState) (x : Status) : (s.withStatus x).preValid = s.preValid := rfl
@[simp] theorem CoreState.withStatus_req (s : CoreState) (x : Status) : (s.withStatus x).req = s.req := rfl
@[simp] theorem CoreState.withStatus_txidLast (s : CoreState) (x : Status) : (s.withStatus x).txidLast = s.txidLast := rfl
@[simp] theorem CoreState.withStatus_seqInfo (s : CoreState) (x : Status) : (s.withStatus x).seqInfo = s.seqInfo := rfl
@[simp] theorem CoreState.withStatus_elapsed (s : CoreState) (x : Status) : (s.withStatus x).elapsed = s.elapsed := rfl
@[simp] theorem CoreState.withStatus_exch (s : CoreState) (x : Status) : (s.withStatus x).exch = s.exch := rfl
@[simp] theorem CoreState.withStatus_withStatus (s : CoreState) (x y : Status) : (s.withStatus x).withStatus y = s.withStatus y := rfl
@[simp] theorem CoreState.withStatus_self (s : CoreState) : s.withStatus s.status = s := rfl
@[simp] theorem CoreState.withCfg_status (s : CoreState) (x : ConfigRegs) : (s.withCfg x).status = s.status := rfl
@[simp] theorem CoreState.withCfg_cfg (s : CoreState) (x : ConfigRegs) : (s.withCfg x).cfg = x := rfl
@[simp] theorem CoreState.withCfg_opnd (s : CoreState) (x : ConfigRegs) : (s.withCfg x).opnd = s.opnd := rfl
@[simp] theorem CoreState.withCfg_res (s : CoreState) (x : ConfigRegs) : (s.withCfg x).res = s.res := rfl
@[simp] theorem CoreState.withCfg_buf (s : CoreState) (x : ConfigRegs) : (s.withCfg x).buf = s.buf := rfl
@[simp] theorem CoreState.withCfg_bal (s : CoreState) (x : ConfigRegs) : (s.withCfg x).bal = s.bal := rfl
@[simp] theorem CoreState.withCfg_balStat (s : CoreState) (x : ConfigRegs) : (s.withCfg x).balStat = s.balStat := rfl
@[simp] theorem CoreState.withCfg_pre (s : CoreState) (x : ConfigRegs) : (s.withCfg x).pre = s.pre := rfl
@[simp] theorem CoreState.withCfg_preValid (s : CoreState) (x : ConfigRegs) : (s.withCfg x).preValid = s.preValid := rfl
@[simp] theorem CoreState.withCfg_req (s : CoreState) (x : ConfigRegs) : (s.withCfg x).req = s.req := rfl
@[simp] theorem CoreState.withCfg_txidLast (s : CoreState) (x : ConfigRegs) : (s.withCfg x).txidLast = s.txidLast := rfl
@[simp] theorem CoreState.withCfg_seqInfo (s : CoreState) (x : ConfigRegs) : (s.withCfg x).seqInfo = s.seqInfo := rfl
@[simp] theorem CoreState.withCfg_elapsed (s : CoreState) (x : ConfigRegs) : (s.withCfg x).elapsed = s.elapsed := rfl
@[simp] theorem CoreState.withCfg_exch (s : CoreState) (x : ConfigRegs) : (s.withCfg x).exch = s.exch := rfl
@[simp] theorem CoreState.withCfg_withCfg (s : CoreState) (x y : ConfigRegs) : (s.withCfg x).withCfg y = s.withCfg y := rfl
@[simp] theorem CoreState.withCfg_self (s : CoreState) : s.withCfg s.cfg = s := rfl
@[simp] theorem CoreState.withOpnd_status (s : CoreState) (x : OperandRegs) : (s.withOpnd x).status = s.status := rfl
@[simp] theorem CoreState.withOpnd_cfg (s : CoreState) (x : OperandRegs) : (s.withOpnd x).cfg = s.cfg := rfl
@[simp] theorem CoreState.withOpnd_opnd (s : CoreState) (x : OperandRegs) : (s.withOpnd x).opnd = x := rfl
@[simp] theorem CoreState.withOpnd_res (s : CoreState) (x : OperandRegs) : (s.withOpnd x).res = s.res := rfl
@[simp] theorem CoreState.withOpnd_buf (s : CoreState) (x : OperandRegs) : (s.withOpnd x).buf = s.buf := rfl
@[simp] theorem CoreState.withOpnd_bal (s : CoreState) (x : OperandRegs) : (s.withOpnd x).bal = s.bal := rfl
@[simp] theorem CoreState.withOpnd_balStat (s : CoreState) (x : OperandRegs) : (s.withOpnd x).balStat = s.balStat := rfl
@[simp] theorem CoreState.withOpnd_pre (s : CoreState) (x : OperandRegs) : (s.withOpnd x).pre = s.pre := rfl
@[simp] theorem CoreState.withOpnd_preValid (s : CoreState) (x : OperandRegs) : (s.withOpnd x).preValid = s.preValid := rfl
@[simp] theorem CoreState.withOpnd_req (s : CoreState) (x : OperandRegs) : (s.withOpnd x).req = s.req := rfl
@[simp] theorem CoreState.withOpnd_txidLast (s : CoreState) (x : OperandRegs) : (s.withOpnd x).txidLast = s.txidLast := rfl
@[simp] theorem CoreState.withOpnd_seqInfo (s : CoreState) (x : OperandRegs) : (s.withOpnd x).seqInfo = s.seqInfo := rfl
@[simp] theorem CoreState.withOpnd_elapsed (s : CoreState) (x : OperandRegs) : (s.withOpnd x).elapsed = s.elapsed := rfl
@[simp] theorem CoreState.withOpnd_exch (s : CoreState) (x : OperandRegs) : (s.withOpnd x).exch = s.exch := rfl
@[simp] theorem CoreState.withOpnd_withOpnd (s : CoreState) (x y : OperandRegs) : (s.withOpnd x).withOpnd y = s.withOpnd y := rfl
@[simp] theorem CoreState.withOpnd_self (s : CoreState) : s.withOpnd s.opnd = s := rfl
@[simp] theorem CoreState.withRes_status (s : CoreState) (x : ResultRegs) : (s.withRes x).status = s.status := rfl
@[simp] theorem CoreState.withRes_cfg (s : CoreState) (x : ResultRegs) : (s.withRes x).cfg = s.cfg := rfl
@[simp] theorem CoreState.withRes_opnd (s : CoreState) (x : ResultRegs) : (s.withRes x).opnd = s.opnd := rfl
@[simp] theorem CoreState.withRes_res (s : CoreState) (x : ResultRegs) : (s.withRes x).res = x := rfl
@[simp] theorem CoreState.withRes_buf (s : CoreState) (x : ResultRegs) : (s.withRes x).buf = s.buf := rfl
@[simp] theorem CoreState.withRes_bal (s : CoreState) (x : ResultRegs) : (s.withRes x).bal = s.bal := rfl
@[simp] theorem CoreState.withRes_balStat (s : CoreState) (x : ResultRegs) : (s.withRes x).balStat = s.balStat := rfl
@[simp] theorem CoreState.withRes_pre (s : CoreState) (x : ResultRegs) : (s.withRes x).pre = s.pre := rfl
@[simp] theorem CoreState.withRes_preValid (s : CoreState) (x : ResultRegs) : (s.withRes x).preValid = s.preValid := rfl
@[simp] theorem CoreState.withRes_req (s : CoreState) (x : ResultRegs) : (s.withRes x).req = s.req := rfl
@[simp] theorem CoreState.withRes_txidLast (s : CoreState) (x : ResultRegs) : (s.withRes x).txidLast = s.txidLast := rfl
@[simp] theorem CoreState.withRes_seqInfo (s : CoreState) (x : ResultRegs) : (s.withRes x).seqInfo = s.seqInfo := rfl
@[simp] theorem CoreState.withRes_elapsed (s : CoreState) (x : ResultRegs) : (s.withRes x).elapsed = s.elapsed := rfl
@[simp] theorem CoreState.withRes_exch (s : CoreState) (x : ResultRegs) : (s.withRes x).exch = s.exch := rfl
@[simp] theorem CoreState.withRes_withRes (s : CoreState) (x y : ResultRegs) : (s.withRes x).withRes y = s.withRes y := rfl
@[simp] theorem CoreState.withRes_self (s : CoreState) : s.withRes s.res = s := rfl
@[simp] theorem CoreState.withBuf_status (s : CoreState) (x : Buffers) : (s.withBuf x).status = s.status := rfl
@[simp] theorem CoreState.withBuf_cfg (s : CoreState) (x : Buffers) : (s.withBuf x).cfg = s.cfg := rfl
@[simp] theorem CoreState.withBuf_opnd (s : CoreState) (x : Buffers) : (s.withBuf x).opnd = s.opnd := rfl
@[simp] theorem CoreState.withBuf_res (s : CoreState) (x : Buffers) : (s.withBuf x).res = s.res := rfl
@[simp] theorem CoreState.withBuf_buf (s : CoreState) (x : Buffers) : (s.withBuf x).buf = x := rfl
@[simp] theorem CoreState.withBuf_bal (s : CoreState) (x : Buffers) : (s.withBuf x).bal = s.bal := rfl
@[simp] theorem CoreState.withBuf_balStat (s : CoreState) (x : Buffers) : (s.withBuf x).balStat = s.balStat := rfl
@[simp] theorem CoreState.withBuf_pre (s : CoreState) (x : Buffers) : (s.withBuf x).pre = s.pre := rfl
@[simp] theorem CoreState.withBuf_preValid (s : CoreState) (x : Buffers) : (s.withBuf x).preValid = s.preValid := rfl
@[simp] theorem CoreState.withBuf_req (s : CoreState) (x : Buffers) : (s.withBuf x).req = s.req := rfl
@[simp] theorem CoreState.withBuf_txidLast (s : CoreState) (x : Buffers) : (s.withBuf x).txidLast = s.txidLast := rfl
@[simp] theorem CoreState.withBuf_seqInfo (s : CoreState) (x : Buffers) : (s.withBuf x).seqInfo = s.seqInfo := rfl
@[simp] theorem CoreState.withBuf_elapsed (s : CoreState) (x : Buffers) : (s.withBuf x).elapsed = s.elapsed := rfl
@[simp] theorem CoreState.withBuf_exch (s : CoreState) (x : Buffers) : (s.withBuf x).exch = s.exch := rfl
@[simp] theorem CoreState.withBuf_withBuf (s : CoreState) (x y : Buffers) : (s.withBuf x).withBuf y = s.withBuf y := rfl
@[simp] theorem CoreState.withBuf_self (s : CoreState) : s.withBuf s.buf = s := rfl
@[simp] theorem CoreState.withBal_status (s : CoreState) (x : Balance) : (s.withBal x).status = s.status := rfl
@[simp] theorem CoreState.withBal_cfg (s : CoreState) (x : Balance) : (s.withBal x).cfg = s.cfg := rfl
@[simp] theorem CoreState.withBal_opnd (s : CoreState) (x : Balance) : (s.withBal x).opnd = s.opnd := rfl
@[simp] theorem CoreState.withBal_res (s : CoreState) (x : Balance) : (s.withBal x).res = s.res := rfl
@[simp] theorem CoreState.withBal_buf (s : CoreState) (x : Balance) : (s.withBal x).buf = s.buf := rfl
@[simp] theorem CoreState.withBal_bal (s : CoreState) (x : Balance) : (s.withBal x).bal = x := rfl
@[simp] theorem CoreState.withBal_balStat (s : CoreState) (x : Balance) : (s.withBal x).balStat = s.balStat := rfl
@[simp] theorem CoreState.withBal_pre (s : CoreState) (x : Balance) : (s.withBal x).pre = s.pre := rfl
@[simp] theorem CoreState.withBal_preValid (s : CoreState) (x : Balance) : (s.withBal x).preValid = s.preValid := rfl
@[simp] theorem CoreState.withBal_req (s : CoreState) (x : Balance) : (s.withBal x).req = s.req := rfl
@[simp] theorem CoreState.withBal_txidLast (s : CoreState) (x : Balance) : (s.withBal x).txidLast = s.txidLast := rfl
@[simp] theorem CoreState.withBal_seqInfo (s : CoreState) (x : Balance) : (s.withBal x).seqInfo = s.seqInfo := rfl
@[simp] theorem CoreState.withBal_elapsed (s : CoreState) (x : Balance) : (s.withBal x).elapsed = s.elapsed := rfl
@[simp] theorem CoreState.withBal_exch (s : CoreState) (x : Balance) : (s.withBal x).exch = s.exch := rfl
@[simp] theorem CoreState.withBal_withBal (s : CoreState) (x y : Balance) : (s.withBal x).withBal y = s.withBal y := rfl
@[simp] theorem CoreState.withBal_self (s : CoreState) : s.withBal s.bal = s := rfl
@[simp] theorem CoreState.withBalStat_status (s : CoreState) (x : BalanceStatus) : (s.withBalStat x).status = s.status := rfl
@[simp] theorem CoreState.withBalStat_cfg (s : CoreState) (x : BalanceStatus) : (s.withBalStat x).cfg = s.cfg := rfl
@[simp] theorem CoreState.withBalStat_opnd (s : CoreState) (x : BalanceStatus) : (s.withBalStat x).opnd = s.opnd := rfl
@[simp] theorem CoreState.withBalStat_res (s : CoreState) (x : BalanceStatus) : (s.withBalStat x).res = s.res := rfl
@[simp] theorem CoreState.withBalStat_buf (s : CoreState) (x : BalanceStatus) : (s.withBalStat x).buf = s.buf := rfl
@[simp] theorem CoreState.withBalStat_bal (s : CoreState) (x : BalanceStatus) : (s.withBalStat x).bal = s.bal := rfl
@[simp] theorem CoreState.withBalStat_balStat (s : CoreState) (x : BalanceStatus) : (s.withBalStat x).balStat = x := rfl
@[simp] theorem CoreState.withBalStat_pre (s : CoreState) (x : BalanceStatus) : (s.withBalStat x).pre = s.pre := rfl
@[simp] theorem CoreState.withBalStat_preValid (s : CoreState) (x : BalanceStatus) : (s.withBalStat x).preValid = s.preValid := rfl
@[simp] theorem CoreState.withBalStat_req (s : CoreState) (x : BalanceStatus) : (s.withBalStat x).req = s.req := rfl
@[simp] theorem CoreState.withBalStat_txidLast (s : CoreState) (x : BalanceStatus) : (s.withBalStat x).txidLast = s.txidLast := rfl
@[simp] theorem CoreState.withBalStat_seqInfo (s : CoreState) (x : BalanceStatus) : (s.withBalStat x).seqInfo = s.seqInfo := rfl
@[simp] theorem CoreState.withBalStat_elapsed (s : CoreState) (x : BalanceStatus) : (s.withBalStat x).elapsed = s.elapsed := rfl
@[simp] theorem CoreState.withBalStat_exch (s : CoreState) (x : BalanceStatus) : (s.withBalStat x).exch = s.exch := rfl
@[simp] theorem CoreState.withBalStat_withBalStat (s : CoreState) (x y : BalanceStatus) : (s.withBalStat x).withBalStat y = s.withBalStat y := rfl
@[simp] theorem CoreState.withBalStat_self (s : CoreState) : s.withBalStat s.balStat = s := rfl
@[simp] theorem CoreState.withPre_status (s : CoreState) (x : Balance) : (s.withPre x).status = s.status := rfl
@[simp] theorem CoreState.withPre_cfg (s : CoreState) (x : Balance) : (s.withPre x).cfg = s.cfg := rfl
@[simp] theorem CoreState.withPre_opnd (s : CoreState) (x : Balance) : (s.withPre x).opnd = s.opnd := rfl
@[simp] theorem CoreState.withPre_res (s : CoreState) (x : Balance) : (s.withPre x).res = s.res := rfl
@[simp] theorem CoreState.withPre_buf (s : CoreState) (x : Balance) : (s.withPre x).buf = s.buf := rfl
@[simp] theorem CoreState.withPre_bal (s : CoreState) (x : Balance) : (s.withPre x).bal = s.bal := rfl
@[simp] theorem CoreState.withPre_balStat (s : CoreState) (x : Balance) : (s.withPre x).balStat = s.balStat := rfl
@[simp] theorem CoreState.withPre_pre (s : CoreState) (x : Balance) : (s.withPre x).pre = x := rfl
@[simp] theorem CoreState.withPre_preValid (s : CoreState) (x : Balance) : (s.withPre x).preValid = s.preValid := rfl
@[simp] theorem CoreState.withPre_req (s : CoreState) (x : Balance) : (s.withPre x).req = s.req := rfl
@[simp] theorem CoreState.withPre_txidLast (s : CoreState) (x : Balance) : (s.withPre x).txidLast = s.txidLast := rfl
@[simp] theorem CoreState.withPre_seqInfo (s : CoreState) (x : Balance) : (s.withPre x).seqInfo = s.seqInfo := rfl
@[simp] theorem CoreState.withPre_elapsed (s : CoreState) (x : Balance) : (s.withPre x).elapsed = s.elapsed := rfl
@[simp] theorem CoreState.withPre_exch (s : CoreState) (x : Balance) : (s.withPre x).exch = s.exch := rfl
@[simp] theorem CoreState.withPre_withPre (s : CoreState) (x y : Balance) : (s.withPre x).withPre y = s.withPre y := rfl
@[simp] theorem CoreState.withPre_self (s : CoreState) : s.withPre s.pre = s := rfl
@[simp] theorem CoreState.withPreValid_status (s : CoreState) (x : Bool) : (s.withPreValid x).status = s.status := rfl
@[simp] theorem CoreState.withPreValid_cfg (s : CoreState) (x : Bool) : (s.withPreValid x).cfg = s.cfg := rfl
@[simp] theorem CoreState.withPreValid_opnd (s : CoreState) (x : Bool) : (s.withPreValid x).opnd = s.opnd := rfl
@[simp] theorem CoreState.withPreValid_res (s : CoreState) (x : Bool) : (s.withPreValid x).res = s.res := rfl
@[simp] theorem CoreState.withPreValid_buf (s : CoreState) (x : Bool) : (s.withPreValid x).buf = s.buf := rfl
@[simp] theorem CoreState.withPreValid_bal (s : CoreState) (x : Bool) : (s.withPreValid x).bal = s.bal := rfl
@[simp] theorem CoreState.withPreValid_balStat (s : CoreState) (x : Bool) : (s.withPreValid x).balStat = s.balStat := rfl
@[simp] theorem CoreState.withPreValid_pre (s : CoreState) (x : Bool) : (s.withPreValid x).pre = s.pre := rfl
@[simp] theorem CoreState.withPreValid_preValid (s : CoreState) (x : Bool) : (s.withPreValid x).preValid = x := rfl
@[simp] theorem CoreState.withPreValid_req (s : CoreState) (x : Bool) : (s.withPreValid x).req = s.req := rfl
@[simp] theorem CoreState.withPreValid_txidLast (s : CoreState) (x : Bool) : (s.withPreValid x).txidLast = s.txidLast := rfl
@[simp] theorem CoreState.withPreValid_seqInfo (s : CoreState) (x : Bool) : (s.withPreValid x).seqInfo = s.seqInfo := rfl
@[simp] theorem CoreState.withPreValid_elapsed (s : CoreState) (x : Bool) : (s.withPreValid x).elapsed = s.elapsed := rfl
@[simp] theorem CoreState.withPreValid_exch (s : CoreState) (x : Bool) : (s.withPreValid x).exch = s.exch := rfl
@[simp] theorem CoreState.withPreValid_withPreValid (s : CoreState) (x y : Bool) : (s.withPreValid x).withPreValid y = s.withPreValid y := rfl
@[simp] theorem CoreState.withPreValid_self (s : CoreState) : s.withPreValid s.preValid = s := rfl
@[simp] theorem CoreState.withReq_status (s : CoreState) (x : Request) : (s.withReq x).status = s.status := rfl
@[simp] theorem CoreState.withReq_cfg (s : CoreState) (x : Request) : (s.withReq x).cfg = s.cfg := rfl
@[simp] theorem CoreState.withReq_opnd (s : CoreState) (x : Request) : (s.withReq x).opnd = s.opnd := rfl
@[simp] theorem CoreState.withReq_res (s : CoreState) (x : Request) : (s.withReq x).res = s.res := rfl
@[simp] theorem CoreState.withReq_buf (s : CoreState) (x : Request) : (s.withReq x).buf = s.buf := rfl
@[simp] theorem CoreState.withReq_bal (s : CoreState) (x : Request) : (s.withReq x).bal = s.bal := rfl
@[simp] theorem CoreState.withReq_balStat (s : CoreState) (x : Request) : (s.withReq x).balStat = s.balStat := rfl
@[simp] theorem CoreState.withReq_pre (s : CoreState) (x : Request) : (s.withReq x).pre = s.pre := rfl
@[simp] theorem CoreState.withReq_preValid (s : CoreState) (x : Request) : (s.withReq x).preValid = s.preValid := rfl
@[simp] theorem CoreState.withReq_req (s : CoreState) (x : Request) : (s.withReq x).req = x := rfl
@[simp] theorem CoreState.withReq_txidLast (s : CoreState) (x : Request) : (s.withReq x).txidLast = s.txidLast := rfl
@[simp] theorem CoreState.withReq_seqInfo (s : CoreState) (x : Request) : (s.withReq x).seqInfo = s.seqInfo := rfl
@[simp] theorem CoreState.withReq_elapsed (s : CoreState) (x : Request) : (s.withReq x).elapsed = s.elapsed := rfl
@[simp] theorem CoreState.withReq_exch (s : CoreState) (x : Request) : (s.withReq x).exch = s.exch := rfl
@[simp] theorem CoreState.withReq_withReq (s : CoreState) (x y : Request) : (s.withReq x).withReq y = s.withReq y := rfl
@[simp] theorem CoreState.withReq_self (s : CoreState) : s.withReq s.req = s := rfl
@[simp] theorem CoreState.withTxidLast_status (s : CoreState) (x : Word32) : (s.withTxidLast x).status = s.status := rfl
@[simp] theorem CoreState.withTxidLast_cfg (s : CoreState) (x : Word32) : (s.withTxidLast x).cfg = s.cfg := rfl
@[simp] theorem CoreState.withTxidLast_opnd (s : CoreState) (x : Word32) : (s.withTxidLast x).opnd = s.opnd := rfl
@[simp] theorem CoreState.withTxidLast_res (s : CoreState) (x : Word32) : (s.withTxidLast x).res = s.res := rfl
@[simp] theorem CoreState.withTxidLast_buf (s : CoreState) (x : Word32) : (s.withTxidLast x).buf = s.buf := rfl
@[simp] theorem CoreState.withTxidLast_bal (s : CoreState) (x : Word32) : (s.withTxidLast x).bal = s.bal := rfl
@[simp] theorem CoreState.withTxidLast_balStat (s : CoreState) (x : Word32) : (s.withTxidLast x).balStat = s.balStat := rfl
@[simp] theorem CoreState.withTxidLast_pre (s : CoreState) (x : Word32) : (s.withTxidLast x).pre = s.pre := rfl
@[simp] theorem CoreState.withTxidLast_preValid (s : CoreState) (x : Word32) : (s.withTxidLast x).preValid = s.preValid := rfl
@[simp] theorem CoreState.withTxidLast_req (s : CoreState) (x : Word32) : (s.withTxidLast x).req = s.req := rfl
@[simp] theorem CoreState.withTxidLast_txidLast (s : CoreState) (x : Word32) : (s.withTxidLast x).txidLast = x := rfl
@[simp] theorem CoreState.withTxidLast_seqInfo (s : CoreState) (x : Word32) : (s.withTxidLast x).seqInfo = s.seqInfo := rfl
@[simp] theorem CoreState.withTxidLast_elapsed (s : CoreState) (x : Word32) : (s.withTxidLast x).elapsed = s.elapsed := rfl
@[simp] theorem CoreState.withTxidLast_exch (s : CoreState) (x : Word32) : (s.withTxidLast x).exch = s.exch := rfl
@[simp] theorem CoreState.withTxidLast_withTxidLast (s : CoreState) (x y : Word32) : (s.withTxidLast x).withTxidLast y = s.withTxidLast y := rfl
@[simp] theorem CoreState.withTxidLast_self (s : CoreState) : s.withTxidLast s.txidLast = s := rfl
@[simp] theorem CoreState.withSeqInfo_status (s : CoreState) (x : SeqInfo) : (s.withSeqInfo x).status = s.status := rfl
@[simp] theorem CoreState.withSeqInfo_cfg (s : CoreState) (x : SeqInfo) : (s.withSeqInfo x).cfg = s.cfg := rfl
@[simp] theorem CoreState.withSeqInfo_opnd (s : CoreState) (x : SeqInfo) : (s.withSeqInfo x).opnd = s.opnd := rfl
@[simp] theorem CoreState.withSeqInfo_res (s : CoreState) (x : SeqInfo) : (s.withSeqInfo x).res = s.res := rfl
@[simp] theorem CoreState.withSeqInfo_buf (s : CoreState) (x : SeqInfo) : (s.withSeqInfo x).buf = s.buf := rfl
@[simp] theorem CoreState.withSeqInfo_bal (s : CoreState) (x : SeqInfo) : (s.withSeqInfo x).bal = s.bal := rfl
@[simp] theorem CoreState.withSeqInfo_balStat (s : CoreState) (x : SeqInfo) : (s.withSeqInfo x).balStat = s.balStat := rfl
@[simp] theorem CoreState.withSeqInfo_pre (s : CoreState) (x : SeqInfo) : (s.withSeqInfo x).pre = s.pre := rfl
@[simp] theorem CoreState.withSeqInfo_preValid (s : CoreState) (x : SeqInfo) : (s.withSeqInfo x).preValid = s.preValid := rfl
@[simp] theorem CoreState.withSeqInfo_req (s : CoreState) (x : SeqInfo) : (s.withSeqInfo x).req = s.req := rfl
@[simp] theorem CoreState.withSeqInfo_txidLast (s : CoreState) (x : SeqInfo) : (s.withSeqInfo x).txidLast = s.txidLast := rfl
@[simp] theorem CoreState.withSeqInfo_seqInfo (s : CoreState) (x : SeqInfo) : (s.withSeqInfo x).seqInfo = x := rfl
@[simp] theorem CoreState.withSeqInfo_elapsed (s : CoreState) (x : SeqInfo) : (s.withSeqInfo x).elapsed = s.elapsed := rfl
@[simp] theorem CoreState.withSeqInfo_exch (s : CoreState) (x : SeqInfo) : (s.withSeqInfo x).exch = s.exch := rfl
@[simp] theorem CoreState.withSeqInfo_withSeqInfo (s : CoreState) (x y : SeqInfo) : (s.withSeqInfo x).withSeqInfo y = s.withSeqInfo y := rfl
@[simp] theorem CoreState.withSeqInfo_self (s : CoreState) : s.withSeqInfo s.seqInfo = s := rfl
@[simp] theorem CoreState.withElapsed_status (s : CoreState) (x : Elapsed) : (s.withElapsed x).status = s.status := rfl
@[simp] theorem CoreState.withElapsed_cfg (s : CoreState) (x : Elapsed) : (s.withElapsed x).cfg = s.cfg := rfl
@[simp] theorem CoreState.withElapsed_opnd (s : CoreState) (x : Elapsed) : (s.withElapsed x).opnd = s.opnd := rfl
@[simp] theorem CoreState.withElapsed_res (s : CoreState) (x : Elapsed) : (s.withElapsed x).res = s.res := rfl
@[simp] theorem CoreState.withElapsed_buf (s : CoreState) (x : Elapsed) : (s.withElapsed x).buf = s.buf := rfl
@[simp] theorem CoreState.withElapsed_bal (s : CoreState) (x : Elapsed) : (s.withElapsed x).bal = s.bal := rfl
@[simp] theorem CoreState.withElapsed_balStat (s : CoreState) (x : Elapsed) : (s.withElapsed x).balStat = s.balStat := rfl
@[simp] theorem CoreState.withElapsed_pre (s : CoreState) (x : Elapsed) : (s.withElapsed x).pre = s.pre := rfl
@[simp] theorem CoreState.withElapsed_preValid (s : CoreState) (x : Elapsed) : (s.withElapsed x).preValid = s.preValid := rfl
@[simp] theorem CoreState.withElapsed_req (s : CoreState) (x : Elapsed) : (s.withElapsed x).req = s.req := rfl
@[simp] theorem CoreState.withElapsed_txidLast (s : CoreState) (x : Elapsed) : (s.withElapsed x).txidLast = s.txidLast := rfl
@[simp] theorem CoreState.withElapsed_seqInfo (s : CoreState) (x : Elapsed) : (s.withElapsed x).seqInfo = s.seqInfo := rfl
@[simp] theorem CoreState.withElapsed_elapsed (s : CoreState) (x : Elapsed) : (s.withElapsed x).elapsed = x := rfl
@[simp] theorem CoreState.withElapsed_exch (s : CoreState) (x : Elapsed) : (s.withElapsed x).exch = s.exch := rfl
@[simp] theorem CoreState.withElapsed_withElapsed (s : CoreState) (x y : Elapsed) : (s.withElapsed x).withElapsed y = s.withElapsed y := rfl
@[simp] theorem CoreState.withElapsed_self (s : CoreState) : s.withElapsed s.elapsed = s := rfl
@[simp] theorem CoreState.withExch_status (s : CoreState) (x : ExchangeUnit) : (s.withExch x).status = s.status := rfl
@[simp] theorem CoreState.withExch_cfg (s : CoreState) (x : ExchangeUnit) : (s.withExch x).cfg = s.cfg := rfl
@[simp] theorem CoreState.withExch_opnd (s : CoreState) (x : ExchangeUnit) : (s.withExch x).opnd = s.opnd := rfl
@[simp] theorem CoreState.withExch_res (s : CoreState) (x : ExchangeUnit) : (s.withExch x).res = s.res := rfl
@[simp] theorem CoreState.withExch_buf (s : CoreState) (x : ExchangeUnit) : (s.withExch x).buf = s.buf := rfl
@[simp] theorem CoreState.withExch_bal (s : CoreState) (x : ExchangeUnit) : (s.withExch x).bal = s.bal := rfl
@[simp] theorem CoreState.withExch_balStat (s : CoreState) (x : ExchangeUnit) : (s.withExch x).balStat = s.balStat := rfl
@[simp] theorem CoreState.withExch_pre (s : CoreState) (x : ExchangeUnit) : (s.withExch x).pre = s.pre := rfl
@[simp] theorem CoreState.withExch_preValid (s : CoreState) (x : ExchangeUnit) : (s.withExch x).preValid = s.preValid := rfl
@[simp] theorem CoreState.withExch_req (s : CoreState) (x : ExchangeUnit) : (s.withExch x).req = s.req := rfl
@[simp] theorem CoreState.withExch_txidLast (s : CoreState) (x : ExchangeUnit) : (s.withExch x).txidLast = s.txidLast := rfl
@[simp] theorem CoreState.withExch_seqInfo (s : CoreState) (x : ExchangeUnit) : (s.withExch x).seqInfo = s.seqInfo := rfl
@[simp] theorem CoreState.withExch_elapsed (s : CoreState) (x : ExchangeUnit) : (s.withExch x).elapsed = s.elapsed := rfl
@[simp] theorem CoreState.withExch_exch (s : CoreState) (x : ExchangeUnit) : (s.withExch x).exch = x := rfl
@[simp] theorem CoreState.withExch_withExch (s : CoreState) (x y : ExchangeUnit) : (s.withExch x).withExch y = s.withExch y := rfl
@[simp] theorem CoreState.withExch_self (s : CoreState) : s.withExch s.exch = s := rfl

@[simp] theorem State.withCore_core (s : State) (x : CoreState) : (s.withCore x).core = x := rfl
@[simp] theorem State.withCore_params (s : State) (x : CoreState) : (s.withCore x).params = s.params := rfl
@[simp] theorem State.withCore_events (s : State) (x : CoreState) : (s.withCore x).events = s.events := rfl
@[simp] theorem State.withCore_wire (s : State) (x : CoreState) : (s.withCore x).wire = s.wire := rfl
@[simp] theorem State.withCore_hostRead (s : State) (x : CoreState) : (s.withCore x).hostRead = s.hostRead := rfl
@[simp] theorem State.withCore_withCore (s : State) (x y : CoreState) : (s.withCore x).withCore y = s.withCore y := rfl
@[simp] theorem State.withCore_self (s : State) : s.withCore s.core = s := rfl
@[simp] theorem State.withParams_core (s : State) (x : Params) : (s.withParams x).core = s.core := rfl
@[simp] theorem State.withParams_params (s : State) (x : Params) : (s.withParams x).params = x := rfl
@[simp] theorem State.withParams_events (s : State) (x : Params) : (s.withParams x).events = s.events := rfl
@[simp] theorem State.withParams_wire (s : State) (x : Params) : (s.withParams x).wire = s.wire := rfl
@[simp] theorem State.withParams_hostRead (s : State) (x : Params) : (s.withParams x).hostRead = s.hostRead := rfl
@[simp] theorem State.withParams_withParams (s : State) (x y : Params) : (s.withParams x).withParams y = s.withParams y := rfl
@[simp] theorem State.withParams_self (s : State) : s.withParams s.params = s := rfl
@[simp] theorem State.withEvents_core (s : State) (x : List Event) : (s.withEvents x).core = s.core := rfl
@[simp] theorem State.withEvents_params (s : State) (x : List Event) : (s.withEvents x).params = s.params := rfl
@[simp] theorem State.withEvents_events (s : State) (x : List Event) : (s.withEvents x).events = x := rfl
@[simp] theorem State.withEvents_wire (s : State) (x : List Event) : (s.withEvents x).wire = s.wire := rfl
@[simp] theorem State.withEvents_hostRead (s : State) (x : List Event) : (s.withEvents x).hostRead = s.hostRead := rfl
@[simp] theorem State.withEvents_withEvents (s : State) (x y : List Event) : (s.withEvents x).withEvents y = s.withEvents y := rfl
@[simp] theorem State.withEvents_self (s : State) : s.withEvents s.events = s := rfl
@[simp] theorem State.withWire_core (s : State) (x : List WireByte) : (s.withWire x).core = s.core := rfl
@[simp] theorem State.withWire_params (s : State) (x : List WireByte) : (s.withWire x).params = s.params := rfl
@[simp] theorem State.withWire_events (s : State) (x : List WireByte) : (s.withWire x).events = s.events := rfl
@[simp] theorem State.withWire_wire (s : State) (x : List WireByte) : (s.withWire x).wire = x := rfl
@[simp] theorem State.withWire_hostRead (s : State) (x : List WireByte) : (s.withWire x).hostRead = s.hostRead := rfl
@[simp] theorem State.withWire_withWire (s : State) (x y : List WireByte) : (s.withWire x).withWire y = s.withWire y := rfl
@[simp] theorem State.withWire_self (s : State) : s.withWire s.wire = s := rfl
@[simp] theorem State.withHostRead_core (s : State) (x : HostRead) : (s.withHostRead x).core = s.core := rfl
@[simp] theorem State.withHostRead_params (s : State) (x : HostRead) : (s.withHostRead x).params = s.params := rfl
@[simp] theorem State.withHostRead_events (s : State) (x : HostRead) : (s.withHostRead x).events = s.events := rfl
@[simp] theorem State.withHostRead_wire (s : State) (x : HostRead) : (s.withHostRead x).wire = s.wire := rfl
@[simp] theorem State.withHostRead_hostRead (s : State) (x : HostRead) : (s.withHostRead x).hostRead = x := rfl
@[simp] theorem State.withHostRead_withHostRead (s : State) (x y : HostRead) : (s.withHostRead x).withHostRead y = s.withHostRead y := rfl
@[simp] theorem State.withHostRead_self (s : State) : s.withHostRead s.hostRead = s := rfl

end Sys2Proof.Machine
end

