-- ==== Sys2Proof/Laws/Ops.lean ====
section
/-! SUPPORT. What the shared operations of the CORE leave unchanged (one lemma per field group) and what
each can do (one lemma per operation), so that later proofs cite them and do not unfold them. -/

namespace Sys2Proof.Machine

-- One proof at a time, so that the compile stays within the memory it is given.
set_option Elab.async false

@[simp] theorem CoreState.setErr_cfg (c : CoreState) (e : ErrCode) : (c.setErr e).cfg = c.cfg := rfl
@[simp] theorem CoreState.setErr_opnd (c : CoreState) (e : ErrCode) : (c.setErr e).opnd = c.opnd := rfl
@[simp] theorem CoreState.setErr_res (c : CoreState) (e : ErrCode) : (c.setErr e).res = c.res := rfl
@[simp] theorem CoreState.setErr_buf (c : CoreState) (e : ErrCode) : (c.setErr e).buf = c.buf := rfl
@[simp] theorem CoreState.setErr_bal (c : CoreState) (e : ErrCode) : (c.setErr e).bal = c.bal := rfl
@[simp] theorem CoreState.setErr_balStat (c : CoreState) (e : ErrCode) : (c.setErr e).balStat = c.balStat := rfl
@[simp] theorem CoreState.setErr_pre (c : CoreState) (e : ErrCode) : (c.setErr e).pre = c.pre := rfl
@[simp] theorem CoreState.setErr_preValid (c : CoreState) (e : ErrCode) : (c.setErr e).preValid = c.preValid := rfl
@[simp] theorem CoreState.setErr_req (c : CoreState) (e : ErrCode) : (c.setErr e).req = c.req := rfl
@[simp] theorem CoreState.setErr_txidLast (c : CoreState) (e : ErrCode) : (c.setErr e).txidLast = c.txidLast := rfl
@[simp] theorem CoreState.setErr_seqInfo (c : CoreState) (e : ErrCode) : (c.setErr e).seqInfo = c.seqInfo := rfl
@[simp] theorem CoreState.setErr_elapsed (c : CoreState) (e : ErrCode) : (c.setErr e).elapsed = c.elapsed := rfl
@[simp] theorem CoreState.setErr_exch (c : CoreState) (e : ErrCode) : (c.setErr e).exch = c.exch := rfl
@[simp] theorem CoreState.raise_cfg (c : CoreState) (e : ErrCode) : (c.raise e).cfg = c.cfg := rfl
@[simp] theorem CoreState.raise_opnd (c : CoreState) (e : ErrCode) : (c.raise e).opnd = c.opnd := rfl
@[simp] theorem CoreState.raise_res (c : CoreState) (e : ErrCode) : (c.raise e).res = c.res := rfl
@[simp] theorem CoreState.raise_buf (c : CoreState) (e : ErrCode) : (c.raise e).buf = c.buf := rfl
@[simp] theorem CoreState.raise_bal (c : CoreState) (e : ErrCode) : (c.raise e).bal = c.bal := rfl
@[simp] theorem CoreState.raise_balStat (c : CoreState) (e : ErrCode) : (c.raise e).balStat = c.balStat := rfl
@[simp] theorem CoreState.raise_pre (c : CoreState) (e : ErrCode) : (c.raise e).pre = c.pre := rfl
@[simp] theorem CoreState.raise_preValid (c : CoreState) (e : ErrCode) : (c.raise e).preValid = c.preValid := rfl
@[simp] theorem CoreState.raise_req (c : CoreState) (e : ErrCode) : (c.raise e).req = c.req := rfl
@[simp] theorem CoreState.raise_txidLast (c : CoreState) (e : ErrCode) : (c.raise e).txidLast = c.txidLast := rfl
@[simp] theorem CoreState.raise_seqInfo (c : CoreState) (e : ErrCode) : (c.raise e).seqInfo = c.seqInfo := rfl
@[simp] theorem CoreState.raise_elapsed (c : CoreState) (e : ErrCode) : (c.raise e).elapsed = c.elapsed := rfl
@[simp] theorem CoreState.raise_exch (c : CoreState) (e : ErrCode) : (c.raise e).exch = c.exch := rfl
@[simp] theorem CoreState.finish_cfg (c : CoreState) : (c.finish).cfg = c.cfg := rfl
@[simp] theorem CoreState.finish_opnd (c : CoreState) : (c.finish).opnd = c.opnd := rfl
@[simp] theorem CoreState.finish_res (c : CoreState) : (c.finish).res = c.res := rfl
@[simp] theorem CoreState.finish_buf (c : CoreState) : (c.finish).buf = c.buf := rfl
@[simp] theorem CoreState.finish_bal (c : CoreState) : (c.finish).bal = c.bal := rfl
@[simp] theorem CoreState.finish_balStat (c : CoreState) : (c.finish).balStat = c.balStat := rfl
@[simp] theorem CoreState.finish_pre (c : CoreState) : (c.finish).pre = c.pre := rfl
@[simp] theorem CoreState.finish_preValid (c : CoreState) : (c.finish).preValid = c.preValid := rfl
@[simp] theorem CoreState.finish_req (c : CoreState) : (c.finish).req = c.req := rfl
@[simp] theorem CoreState.finish_txidLast (c : CoreState) : (c.finish).txidLast = c.txidLast := rfl
@[simp] theorem CoreState.finish_seqInfo (c : CoreState) : (c.finish).seqInfo = c.seqInfo := rfl
@[simp] theorem CoreState.finish_elapsed (c : CoreState) : (c.finish).elapsed = c.elapsed := rfl
@[simp] theorem CoreState.finish_exch (c : CoreState) : (c.finish).exch = c.exch := rfl
@[simp] theorem CoreState.loadTx_status (p : Params) (c : CoreState) (f : List Byte) : (c.loadTx p f).status = c.status := rfl
@[simp] theorem CoreState.loadTx_cfg (p : Params) (c : CoreState) (f : List Byte) : (c.loadTx p f).cfg = c.cfg := rfl
@[simp] theorem CoreState.loadTx_opnd (p : Params) (c : CoreState) (f : List Byte) : (c.loadTx p f).opnd = c.opnd := rfl
@[simp] theorem CoreState.loadTx_res (p : Params) (c : CoreState) (f : List Byte) : (c.loadTx p f).res = c.res := rfl
@[simp] theorem CoreState.loadTx_bal (p : Params) (c : CoreState) (f : List Byte) : (c.loadTx p f).bal = c.bal := rfl
@[simp] theorem CoreState.loadTx_balStat (p : Params) (c : CoreState) (f : List Byte) : (c.loadTx p f).balStat = c.balStat := rfl
@[simp] theorem CoreState.loadTx_pre (p : Params) (c : CoreState) (f : List Byte) : (c.loadTx p f).pre = c.pre := rfl
@[simp] theorem CoreState.loadTx_preValid (p : Params) (c : CoreState) (f : List Byte) : (c.loadTx p f).preValid = c.preValid := rfl
@[simp] theorem CoreState.loadTx_req (p : Params) (c : CoreState) (f : List Byte) : (c.loadTx p f).req = c.req := rfl
@[simp] theorem CoreState.loadTx_txidLast (p : Params) (c : CoreState) (f : List Byte) : (c.loadTx p f).txidLast = c.txidLast := rfl
@[simp] theorem CoreState.loadTx_seqInfo (p : Params) (c : CoreState) (f : List Byte) : (c.loadTx p f).seqInfo = c.seqInfo := rfl
@[simp] theorem CoreState.loadTx_elapsed (p : Params) (c : CoreState) (f : List Byte) : (c.loadTx p f).elapsed = c.elapsed := rfl
@[simp] theorem CoreState.loadTx_exch (p : Params) (c : CoreState) (f : List Byte) : (c.loadTx p f).exch = c.exch := rfl
@[simp] theorem CoreState.finishSeq_cfg (c : CoreState) (q : SeqState) : (c.finishSeq q).cfg = c.cfg := rfl
@[simp] theorem CoreState.finishSeq_opnd (c : CoreState) (q : SeqState) : (c.finishSeq q).opnd = c.opnd := rfl
@[simp] theorem CoreState.finishSeq_res (c : CoreState) (q : SeqState) : (c.finishSeq q).res = c.res := rfl
@[simp] theorem CoreState.finishSeq_buf (c : CoreState) (q : SeqState) : (c.finishSeq q).buf = c.buf := rfl
@[simp] theorem CoreState.finishSeq_bal (c : CoreState) (q : SeqState) : (c.finishSeq q).bal = c.bal := rfl
@[simp] theorem CoreState.finishSeq_balStat (c : CoreState) (q : SeqState) : (c.finishSeq q).balStat = c.balStat := rfl
@[simp] theorem CoreState.finishSeq_pre (c : CoreState) (q : SeqState) : (c.finishSeq q).pre = c.pre := rfl
@[simp] theorem CoreState.finishSeq_preValid (c : CoreState) (q : SeqState) : (c.finishSeq q).preValid = c.preValid := rfl
@[simp] theorem CoreState.finishSeq_req (c : CoreState) (q : SeqState) : (c.finishSeq q).req = c.req := rfl
@[simp] theorem CoreState.finishSeq_txidLast (c : CoreState) (q : SeqState) : (c.finishSeq q).txidLast = c.txidLast := rfl
@[simp] theorem CoreState.finishSeq_seqInfo (c : CoreState) (q : SeqState) : (c.finishSeq q).seqInfo = c.seqInfo := rfl
@[simp] theorem CoreState.finishSeq_elapsed (c : CoreState) (q : SeqState) : (c.finishSeq q).elapsed = c.elapsed := rfl
@[simp] theorem CoreState.fail_cfg (c : CoreState) (k : ErrCode) : (c.fail k).cfg = c.cfg := rfl
@[simp] theorem CoreState.fail_opnd (c : CoreState) (k : ErrCode) : (c.fail k).opnd = c.opnd := rfl
@[simp] theorem CoreState.fail_res (c : CoreState) (k : ErrCode) : (c.fail k).res = c.res := rfl
@[simp] theorem CoreState.fail_buf (c : CoreState) (k : ErrCode) : (c.fail k).buf = c.buf := rfl
@[simp] theorem CoreState.fail_bal (c : CoreState) (k : ErrCode) : (c.fail k).bal = c.bal := rfl
@[simp] theorem CoreState.fail_balStat (c : CoreState) (k : ErrCode) : (c.fail k).balStat = c.balStat := rfl
@[simp] theorem CoreState.fail_pre (c : CoreState) (k : ErrCode) : (c.fail k).pre = c.pre := rfl
@[simp] theorem CoreState.fail_preValid (c : CoreState) (k : ErrCode) : (c.fail k).preValid = c.preValid := rfl
@[simp] theorem CoreState.fail_req (c : CoreState) (k : ErrCode) : (c.fail k).req = c.req := rfl
@[simp] theorem CoreState.fail_txidLast (c : CoreState) (k : ErrCode) : (c.fail k).txidLast = c.txidLast := rfl
@[simp] theorem CoreState.fail_seqInfo (c : CoreState) (k : ErrCode) : (c.fail k).seqInfo = c.seqInfo := rfl
@[simp] theorem CoreState.fail_elapsed (c : CoreState) (k : ErrCode) : (c.fail k).elapsed = c.elapsed := rfl
@[simp] theorem CoreState.startWait_cfg (c : CoreState) : (c.startWait).cfg = c.cfg := rfl
@[simp] theorem CoreState.startWait_opnd (c : CoreState) : (c.startWait).opnd = c.opnd := rfl
@[simp] theorem CoreState.startWait_res (c : CoreState) : (c.startWait).res = c.res := rfl
@[simp] theorem CoreState.startWait_buf (c : CoreState) : (c.startWait).buf = c.buf := rfl
@[simp] theorem CoreState.startWait_bal (c : CoreState) : (c.startWait).bal = c.bal := rfl
@[simp] theorem CoreState.startWait_balStat (c : CoreState) : (c.startWait).balStat = c.balStat := rfl
@[simp] theorem CoreState.startWait_pre (c : CoreState) : (c.startWait).pre = c.pre := rfl
@[simp] theorem CoreState.startWait_preValid (c : CoreState) : (c.startWait).preValid = c.preValid := rfl
@[simp] theorem CoreState.startWait_req (c : CoreState) : (c.startWait).req = c.req := rfl
@[simp] theorem CoreState.startWait_txidLast (c : CoreState) : (c.startWait).txidLast = c.txidLast := rfl
@[simp] theorem CoreState.startWait_seqInfo (c : CoreState) : (c.startWait).seqInfo = c.seqInfo := rfl
@[simp] theorem CoreState.startWait_elapsed (c : CoreState) : (c.startWait).elapsed = c.elapsed := rfl
@[simp] theorem CoreState.settle_cfg (c : CoreState) : (c.settle).cfg = c.cfg := rfl
@[simp] theorem CoreState.settle_opnd (c : CoreState) : (c.settle).opnd = c.opnd := rfl
@[simp] theorem CoreState.settle_res (c : CoreState) : (c.settle).res = c.res := rfl
@[simp] theorem CoreState.settle_buf (c : CoreState) : (c.settle).buf = c.buf := rfl
@[simp] theorem CoreState.settle_bal (c : CoreState) : (c.settle).bal = c.bal := rfl
@[simp] theorem CoreState.settle_balStat (c : CoreState) : (c.settle).balStat = c.balStat := rfl
@[simp] theorem CoreState.settle_pre (c : CoreState) : (c.settle).pre = c.pre := rfl
@[simp] theorem CoreState.settle_preValid (c : CoreState) : (c.settle).preValid = c.preValid := rfl
@[simp] theorem CoreState.settle_req (c : CoreState) : (c.settle).req = c.req := rfl
@[simp] theorem CoreState.settle_txidLast (c : CoreState) : (c.settle).txidLast = c.txidLast := rfl
@[simp] theorem CoreState.settle_seqInfo (c : CoreState) : (c.settle).seqInfo = c.seqInfo := rfl
@[simp] theorem CoreState.settle_elapsed (c : CoreState) : (c.settle).elapsed = c.elapsed := rfl
@[simp] theorem CoreState.noteReply_status (c : CoreState) : (c.noteReply).status = c.status := rfl
@[simp] theorem CoreState.noteReply_cfg (c : CoreState) : (c.noteReply).cfg = c.cfg := rfl
@[simp] theorem CoreState.noteReply_opnd (c : CoreState) : (c.noteReply).opnd = c.opnd := rfl
@[simp] theorem CoreState.noteReply_res (c : CoreState) : (c.noteReply).res = c.res := rfl
@[simp] theorem CoreState.noteReply_buf (c : CoreState) : (c.noteReply).buf = c.buf := rfl
@[simp] theorem CoreState.noteReply_bal (c : CoreState) : (c.noteReply).bal = c.bal := rfl
@[simp] theorem CoreState.noteReply_balStat (c : CoreState) : (c.noteReply).balStat = c.balStat := rfl
@[simp] theorem CoreState.noteReply_pre (c : CoreState) : (c.noteReply).pre = c.pre := rfl
@[simp] theorem CoreState.noteReply_preValid (c : CoreState) : (c.noteReply).preValid = c.preValid := rfl
@[simp] theorem CoreState.noteReply_req (c : CoreState) : (c.noteReply).req = c.req := rfl
@[simp] theorem CoreState.noteReply_txidLast (c : CoreState) : (c.noteReply).txidLast = c.txidLast := rfl
@[simp] theorem CoreState.noteReply_elapsed (c : CoreState) : (c.noteReply).elapsed = c.elapsed := rfl
@[simp] theorem CoreState.noteReply_exch (c : CoreState) : (c.noteReply).exch = c.exch := rfl
@[simp] theorem CoreState.noteTimeout_status (c : CoreState) : (c.noteTimeout).status = c.status := rfl
@[simp] theorem CoreState.noteTimeout_cfg (c : CoreState) : (c.noteTimeout).cfg = c.cfg := rfl
@[simp] theorem CoreState.noteTimeout_opnd (c : CoreState) : (c.noteTimeout).opnd = c.opnd := rfl
@[simp] theorem CoreState.noteTimeout_res (c : CoreState) : (c.noteTimeout).res = c.res := rfl
@[simp] theorem CoreState.noteTimeout_buf (c : CoreState) : (c.noteTimeout).buf = c.buf := rfl
@[simp] theorem CoreState.noteTimeout_bal (c : CoreState) : (c.noteTimeout).bal = c.bal := rfl
@[simp] theorem CoreState.noteTimeout_balStat (c : CoreState) : (c.noteTimeout).balStat = c.balStat := rfl
@[simp] theorem CoreState.noteTimeout_pre (c : CoreState) : (c.noteTimeout).pre = c.pre := rfl
@[simp] theorem CoreState.noteTimeout_preValid (c : CoreState) : (c.noteTimeout).preValid = c.preValid := rfl
@[simp] theorem CoreState.noteTimeout_req (c : CoreState) : (c.noteTimeout).req = c.req := rfl
@[simp] theorem CoreState.noteTimeout_txidLast (c : CoreState) : (c.noteTimeout).txidLast = c.txidLast := rfl
@[simp] theorem CoreState.noteTimeout_elapsed (c : CoreState) : (c.noteTimeout).elapsed = c.elapsed := rfl
@[simp] theorem CoreState.noteTimeout_exch (c : CoreState) : (c.noteTimeout).exch = c.exch := rfl
@[simp] theorem CoreState.latchRequest_cfg (c : CoreState) (t : TransferType) : (c.latchRequest t).cfg = c.cfg := rfl
@[simp] theorem CoreState.latchRequest_opnd (c : CoreState) (t : TransferType) : (c.latchRequest t).opnd = c.opnd := rfl
@[simp] theorem CoreState.latchRequest_res (c : CoreState) (t : TransferType) : (c.latchRequest t).res = c.res := rfl
@[simp] theorem CoreState.latchRequest_buf (c : CoreState) (t : TransferType) : (c.latchRequest t).buf = c.buf := rfl
@[simp] theorem CoreState.latchRequest_bal (c : CoreState) (t : TransferType) : (c.latchRequest t).bal = c.bal := rfl
@[simp] theorem CoreState.latchRequest_balStat (c : CoreState) (t : TransferType) : (c.latchRequest t).balStat = c.balStat := rfl
@[simp] theorem CoreState.latchRequest_pre (c : CoreState) (t : TransferType) : (c.latchRequest t).pre = c.pre := rfl
@[simp] theorem CoreState.latchRequest_preValid (c : CoreState) (t : TransferType) : (c.latchRequest t).preValid = c.preValid := rfl
@[simp] theorem CoreState.latchRequest_txidLast (c : CoreState) (t : TransferType) : (c.latchRequest t).txidLast = c.txidLast := rfl
@[simp] theorem CoreState.latchRequest_exch (c : CoreState) (t : TransferType) : (c.latchRequest t).exch = c.exch := rfl
@[simp] theorem CoreState.snapshot_status (c : CoreState) : (c.snapshot).status = c.status := rfl
@[simp] theorem CoreState.snapshot_cfg (c : CoreState) : (c.snapshot).cfg = c.cfg := rfl
@[simp] theorem CoreState.snapshot_opnd (c : CoreState) : (c.snapshot).opnd = c.opnd := rfl
@[simp] theorem CoreState.snapshot_res (c : CoreState) : (c.snapshot).res = c.res := rfl
@[simp] theorem CoreState.snapshot_buf (c : CoreState) : (c.snapshot).buf = c.buf := rfl
@[simp] theorem CoreState.snapshot_bal (c : CoreState) : (c.snapshot).bal = c.bal := rfl
@[simp] theorem CoreState.snapshot_balStat (c : CoreState) : (c.snapshot).balStat = c.balStat := rfl
@[simp] theorem CoreState.snapshot_req (c : CoreState) : (c.snapshot).req = c.req := rfl
@[simp] theorem CoreState.snapshot_txidLast (c : CoreState) : (c.snapshot).txidLast = c.txidLast := rfl
@[simp] theorem CoreState.snapshot_seqInfo (c : CoreState) : (c.snapshot).seqInfo = c.seqInfo := rfl
@[simp] theorem CoreState.snapshot_elapsed (c : CoreState) : (c.snapshot).elapsed = c.elapsed := rfl
@[simp] theorem CoreState.snapshot_exch (c : CoreState) : (c.snapshot).exch = c.exch := rfl
@[simp] theorem CoreState.storeRx_status (p : Params) (c : CoreState) (b : Byte) : (c.storeRx p b).status = c.status := rfl
@[simp] theorem CoreState.storeRx_cfg (p : Params) (c : CoreState) (b : Byte) : (c.storeRx p b).cfg = c.cfg := rfl
@[simp] theorem CoreState.storeRx_opnd (p : Params) (c : CoreState) (b : Byte) : (c.storeRx p b).opnd = c.opnd := rfl
@[simp] theorem CoreState.storeRx_res (p : Params) (c : CoreState) (b : Byte) : (c.storeRx p b).res = c.res := rfl
@[simp] theorem CoreState.storeRx_bal (p : Params) (c : CoreState) (b : Byte) : (c.storeRx p b).bal = c.bal := rfl
@[simp] theorem CoreState.storeRx_balStat (p : Params) (c : CoreState) (b : Byte) : (c.storeRx p b).balStat = c.balStat := rfl
@[simp] theorem CoreState.storeRx_pre (p : Params) (c : CoreState) (b : Byte) : (c.storeRx p b).pre = c.pre := rfl
@[simp] theorem CoreState.storeRx_preValid (p : Params) (c : CoreState) (b : Byte) : (c.storeRx p b).preValid = c.preValid := rfl
@[simp] theorem CoreState.storeRx_req (p : Params) (c : CoreState) (b : Byte) : (c.storeRx p b).req = c.req := rfl
@[simp] theorem CoreState.storeRx_txidLast (p : Params) (c : CoreState) (b : Byte) : (c.storeRx p b).txidLast = c.txidLast := rfl
@[simp] theorem CoreState.storeRx_seqInfo (p : Params) (c : CoreState) (b : Byte) : (c.storeRx p b).seqInfo = c.seqInfo := rfl
@[simp] theorem CoreState.storeRx_elapsed (p : Params) (c : CoreState) (b : Byte) : (c.storeRx p b).elapsed = c.elapsed := rfl
@[simp] theorem CoreState.storeRx_exch (p : Params) (c : CoreState) (b : Byte) : (c.storeRx p b).exch = c.exch := rfl
@[simp] theorem CoreState.tickTimer_status (c : CoreState) : (c.tickTimer).status = c.status := rfl
@[simp] theorem CoreState.tickTimer_cfg (c : CoreState) : (c.tickTimer).cfg = c.cfg := rfl
@[simp] theorem CoreState.tickTimer_opnd (c : CoreState) : (c.tickTimer).opnd = c.opnd := rfl
@[simp] theorem CoreState.tickTimer_res (c : CoreState) : (c.tickTimer).res = c.res := rfl
@[simp] theorem CoreState.tickTimer_buf (c : CoreState) : (c.tickTimer).buf = c.buf := rfl
@[simp] theorem CoreState.tickTimer_bal (c : CoreState) : (c.tickTimer).bal = c.bal := rfl
@[simp] theorem CoreState.tickTimer_balStat (c : CoreState) : (c.tickTimer).balStat = c.balStat := rfl
@[simp] theorem CoreState.tickTimer_pre (c : CoreState) : (c.tickTimer).pre = c.pre := rfl
@[simp] theorem CoreState.tickTimer_preValid (c : CoreState) : (c.tickTimer).preValid = c.preValid := rfl
@[simp] theorem CoreState.tickTimer_req (c : CoreState) : (c.tickTimer).req = c.req := rfl
@[simp] theorem CoreState.tickTimer_txidLast (c : CoreState) : (c.tickTimer).txidLast = c.txidLast := rfl
@[simp] theorem CoreState.tickTimer_seqInfo (c : CoreState) : (c.tickTimer).seqInfo = c.seqInfo := rfl
@[simp] theorem CoreState.tickTimer_elapsed (c : CoreState) : (c.tickTimer).elapsed = c.elapsed := rfl
@[simp] theorem CoreState.xchgEnd_cfg (c : CoreState) (r : ExchangeOutcome) : (c.xchgEnd r).cfg = c.cfg := rfl
@[simp] theorem CoreState.xchgEnd_opnd (c : CoreState) (r : ExchangeOutcome) : (c.xchgEnd r).opnd = c.opnd := rfl
@[simp] theorem CoreState.xchgEnd_res (c : CoreState) (r : ExchangeOutcome) : (c.xchgEnd r).res = c.res := rfl
@[simp] theorem CoreState.xchgEnd_buf (c : CoreState) (r : ExchangeOutcome) : (c.xchgEnd r).buf = c.buf := rfl
@[simp] theorem CoreState.xchgEnd_bal (c : CoreState) (r : ExchangeOutcome) : (c.xchgEnd r).bal = c.bal := rfl
@[simp] theorem CoreState.xchgEnd_balStat (c : CoreState) (r : ExchangeOutcome) : (c.xchgEnd r).balStat = c.balStat := rfl
@[simp] theorem CoreState.xchgEnd_pre (c : CoreState) (r : ExchangeOutcome) : (c.xchgEnd r).pre = c.pre := rfl
@[simp] theorem CoreState.xchgEnd_preValid (c : CoreState) (r : ExchangeOutcome) : (c.xchgEnd r).preValid = c.preValid := rfl
@[simp] theorem CoreState.xchgEnd_req (c : CoreState) (r : ExchangeOutcome) : (c.xchgEnd r).req = c.req := rfl
@[simp] theorem CoreState.xchgEnd_txidLast (c : CoreState) (r : ExchangeOutcome) : (c.xchgEnd r).txidLast = c.txidLast := rfl
@[simp] theorem CoreState.xchgEnd_seqInfo (c : CoreState) (r : ExchangeOutcome) : (c.xchgEnd r).seqInfo = c.seqInfo := rfl
@[simp] theorem CoreState.xchgEnd_elapsed (c : CoreState) (r : ExchangeOutcome) : (c.xchgEnd r).elapsed = c.elapsed := rfl

/-! Operations with a choice. -/

@[simp] theorem CoreState.endWrite_cfg (c : CoreState) : (c.endWrite).cfg = c.cfg := by
  unfold CoreState.endWrite; split <;> rfl
@[simp] theorem CoreState.endWrite_opnd (c : CoreState) : (c.endWrite).opnd = c.opnd := by
  unfold CoreState.endWrite; split <;> rfl
@[simp] theorem CoreState.endWrite_res (c : CoreState) : (c.endWrite).res = c.res := by
  unfold CoreState.endWrite; split <;> rfl
@[simp] theorem CoreState.endWrite_buf (c : CoreState) : (c.endWrite).buf = c.buf := by
  unfold CoreState.endWrite; split <;> rfl
@[simp] theorem CoreState.endWrite_bal (c : CoreState) : (c.endWrite).bal = c.bal := by
  unfold CoreState.endWrite; split <;> rfl
@[simp] theorem CoreState.endWrite_balStat (c : CoreState) : (c.endWrite).balStat = c.balStat := by
  unfold CoreState.endWrite; split <;> rfl
@[simp] theorem CoreState.endWrite_pre (c : CoreState) : (c.endWrite).pre = c.pre := by
  unfold CoreState.endWrite; split <;> rfl
@[simp] theorem CoreState.endWrite_preValid (c : CoreState) : (c.endWrite).preValid = c.preValid := by
  unfold CoreState.endWrite; split <;> rfl
@[simp] theorem CoreState.endWrite_req (c : CoreState) : (c.endWrite).req = c.req := by
  unfold CoreState.endWrite; split <;> rfl
@[simp] theorem CoreState.endWrite_txidLast (c : CoreState) : (c.endWrite).txidLast = c.txidLast := by
  unfold CoreState.endWrite; split <;> rfl
@[simp] theorem CoreState.endWrite_seqInfo (c : CoreState) : (c.endWrite).seqInfo = c.seqInfo := by
  unfold CoreState.endWrite; split <;> rfl
@[simp] theorem CoreState.endWrite_elapsed (c : CoreState) : (c.endWrite).elapsed = c.elapsed := by
  unfold CoreState.endWrite; split <;> rfl
@[simp] theorem CoreState.startExchange_cfg (c : CoreState) (w : Owner) : (c.startExchange w).cfg = c.cfg := by
  simp only [CoreState.startExchange]; split <;> simp
@[simp] theorem CoreState.startExchange_opnd (c : CoreState) (w : Owner) : (c.startExchange w).opnd = c.opnd := by
  simp only [CoreState.startExchange]; split <;> simp
@[simp] theorem CoreState.startExchange_res (c : CoreState) (w : Owner) : (c.startExchange w).res = c.res := by
  simp only [CoreState.startExchange]; split <;> simp
@[simp] theorem CoreState.startExchange_bal (c : CoreState) (w : Owner) : (c.startExchange w).bal = c.bal := by
  simp only [CoreState.startExchange]; split <;> simp
@[simp] theorem CoreState.startExchange_balStat (c : CoreState) (w : Owner) : (c.startExchange w).balStat = c.balStat := by
  simp only [CoreState.startExchange]; split <;> simp
@[simp] theorem CoreState.startExchange_pre (c : CoreState) (w : Owner) : (c.startExchange w).pre = c.pre := by
  simp only [CoreState.startExchange]; split <;> simp
@[simp] theorem CoreState.startExchange_preValid (c : CoreState) (w : Owner) : (c.startExchange w).preValid = c.preValid := by
  simp only [CoreState.startExchange]; split <;> simp
@[simp] theorem CoreState.startExchange_req (c : CoreState) (w : Owner) : (c.startExchange w).req = c.req := by
  simp only [CoreState.startExchange]; split <;> simp
@[simp] theorem CoreState.startExchange_txidLast (c : CoreState) (w : Owner) : (c.startExchange w).txidLast = c.txidLast := by
  simp only [CoreState.startExchange]; split <;> simp
@[simp] theorem CoreState.startExchange_seqInfo (c : CoreState) (w : Owner) : (c.startExchange w).seqInfo = c.seqInfo := by
  simp only [CoreState.startExchange]; split <;> simp
@[simp] theorem CoreState.startExchange_elapsed (c : CoreState) (w : Owner) : (c.startExchange w).elapsed = c.elapsed := by
  simp only [CoreState.startExchange]; split <;> simp
@[simp] theorem CoreState.pollDecide_cfg (c : CoreState) (ok : Bool) : (c.pollDecide ok).cfg = c.cfg := by
  simp only [CoreState.pollDecide]; split <;> [skip; split] <;> simp
@[simp] theorem CoreState.pollDecide_opnd (c : CoreState) (ok : Bool) : (c.pollDecide ok).opnd = c.opnd := by
  simp only [CoreState.pollDecide]; split <;> [skip; split] <;> simp
@[simp] theorem CoreState.pollDecide_res (c : CoreState) (ok : Bool) : (c.pollDecide ok).res = c.res := by
  simp only [CoreState.pollDecide]; split <;> [skip; split] <;> simp
@[simp] theorem CoreState.pollDecide_buf (c : CoreState) (ok : Bool) : (c.pollDecide ok).buf = c.buf := by
  simp only [CoreState.pollDecide]; split <;> [skip; split] <;> simp
@[simp] theorem CoreState.pollDecide_bal (c : CoreState) (ok : Bool) : (c.pollDecide ok).bal = c.bal := by
  simp only [CoreState.pollDecide]; split <;> [skip; split] <;> simp
@[simp] theorem CoreState.pollDecide_balStat (c : CoreState) (ok : Bool) : (c.pollDecide ok).balStat = c.balStat := by
  simp only [CoreState.pollDecide]; split <;> [skip; split] <;> simp
@[simp] theorem CoreState.pollDecide_pre (c : CoreState) (ok : Bool) : (c.pollDecide ok).pre = c.pre := by
  simp only [CoreState.pollDecide]; split <;> [skip; split] <;> simp
@[simp] theorem CoreState.pollDecide_preValid (c : CoreState) (ok : Bool) : (c.pollDecide ok).preValid = c.preValid := by
  simp only [CoreState.pollDecide]; split <;> [skip; split] <;> simp
@[simp] theorem CoreState.pollDecide_req (c : CoreState) (ok : Bool) : (c.pollDecide ok).req = c.req := by
  simp only [CoreState.pollDecide]; split <;> [skip; split] <;> simp
@[simp] theorem CoreState.pollDecide_txidLast (c : CoreState) (ok : Bool) : (c.pollDecide ok).txidLast = c.txidLast := by
  simp only [CoreState.pollDecide]; split <;> [skip; split] <;> simp
@[simp] theorem CoreState.pollDecide_seqInfo (c : CoreState) (ok : Bool) : (c.pollDecide ok).seqInfo = c.seqInfo := by
  simp only [CoreState.pollDecide]; split <;> [skip; split] <;> simp
@[simp] theorem CoreState.pollDecide_elapsed (c : CoreState) (ok : Bool) : (c.pollDecide ok).elapsed = c.elapsed := by
  simp only [CoreState.pollDecide]; split <;> [skip; split] <;> simp

/-! What the operations that read a parameter of R7 do at its value. -/

/-- A result register holds the value modulo 2^64 (R7, R22). -/
@[simp] theorem resultValue_eq (p : Params) (v : Nat) : resultValue p v = BitVec.ofNat 64 v := by
  apply BitVec.eq_of_toNat_eq
  simp [resultValue, Config.valueWidth]

@[simp] theorem CoreState.key_eq (p : Params) (c : CoreState) :
    c.key p = Memory.readRange c.buf.keybuf 0 20 := by
  simp [CoreState.key, Config.keyLen]

/-- TXBUF and TXLEN after a frame was put there (R141). -/
theorem CoreState.loadTx_eq (p : Params) (c : CoreState) (f : List Byte) :
    c.loadTx p f = c.withBuf { c.buf with
      txbuf := Memory.writeRange Config.frameMax c.buf.txbuf 0 f
      txlen := BitVec.ofNat 9 f.length } := by
  simp [CoreState.loadTx]

/-- A byte stored by an open read attempt (R222). -/
theorem CoreState.storeRx_eq (p : Params) (c : CoreState) (b : Byte) :
    c.storeRx p b = c.withBuf { c.buf with
      rxbuf := Memory.write Config.frameMax c.buf.rxbuf c.buf.rxlen.toNat b
      rxlen := c.buf.rxlen + 1 } := by
  simp [CoreState.storeRx]

/-- No id is left exactly at 2^32 - 1 (R250). -/
theorem CoreState.idsExhausted_iff (p : Params) (c : CoreState) :
    c.idsExhausted p = true ↔ c.txidLast = BitVec.allOnes 32 := by
  have := c.txidLast.isLt
  simp only [CoreState.idsExhausted, Fixed.val_eq, Config.txidWidth, decide_eq_true_eq]
  rw [← BitVec.toNat_inj]
  simp only [BitVec.toNat_allOnes]
  omega

/-- The ARG domain that the operation checks is the one of the encoding (R82, R101). -/
@[simp] theorem byteLenLegal_eq (p : Params) (n : Byte) : byteLenLegal p n = byteLenOk n := by
  simp [byteLenLegal, byteLenOk]

/-- `raise` writes ERR and keeps every other STATUS field (R11). -/
theorem CoreState.raise_status (c : CoreState) (e : ErrCode) :
    (c.raise e).status = { c.status with err := e } := rfl

/-- `finish` writes ERR = OK and keeps every other STATUS field (R11). -/
theorem CoreState.finish_status (c : CoreState) :
    c.finish.status = { c.status with err := .ok } := rfl

/-- A host operation always answers: Busy while active, its own rule otherwise (R220, R303). -/
theorem hostOp_eq (s : State) (rule : CoreState → CoreState) :
    hostOp s rule =
      .next (s.withCore (if s.core.active then s.core.raise .busy else rule s.core)) := rfl

theorem hostOp_busy {s : State} (h : s.core.active = true) (rule : CoreState → CoreState) :
    hostOp s rule = .next (s.withCore (s.core.raise .busy)) := by
  rw [hostOp_eq, if_pos h]

theorem hostOp_idle {s : State} (h : s.core.active = false) (rule : CoreState → CoreState) :
    hostOp s rule = .next (s.withCore (rule s.core)) := by
  simp [hostOp_eq, h]

/-- FINISH leaves the given terminal state, PHASE NONE, nothing pending and no read attempt (R260). -/
theorem CoreState.finishSeq_status (c : CoreState) (q : SeqState) :
    (c.finishSeq q).status = { c.status with
      seq := q, phase := .none, cancelPending := false,
      err := if q = .failed then c.status.failKind else .ok } := rfl

theorem CoreState.finishSeq_exch (c : CoreState) (q : SeqState) :
    (c.finishSeq q).exch = { c.exch with rxOpen := false } := rfl

/-- FAIL leaves Failed with its cause in FAIL_KIND and in ERR (R261). -/
theorem CoreState.fail_status (c : CoreState) (k : ErrCode) :
    (c.fail k).status = { c.status with
      seq := .failed, phase := .none, cancelPending := false, err := k, failKind := k } := rfl

theorem CoreState.fail_exch (c : CoreState) (k : ErrCode) :
    (c.fail k).exch = { c.exch with rxOpen := false } := rfl

/-- END_WRITE fails a sequence with a pending cancel and otherwise opens the read attempt (R221). -/
theorem CoreState.endWrite_cases (c : CoreState) :
    (c.exch.owner = .sequencer ∧ c.status.cancelPending = true ∧ c.endWrite = c.fail .cancelled) ∨
    ((c.exch.owner = .standalone ∨ c.status.cancelPending = false) ∧
      c.endWrite = (c.withStatus { c.status with phase := .rx }).withExch
        { c.exch with rxOpen := true, timer := 0 }) := by
  unfold CoreState.endWrite
  split
  · exact .inl ⟨‹_ ∧ _›.1, ‹_ ∧ _›.2, rfl⟩
  · refine .inr ⟨?_, rfl⟩
    rename_i h
    cases ho : c.exch.owner
    · exact .inl rfl
    · cases hc : c.status.cancelPending
      · exact .inr rfl
      · exact absurd ⟨ho, hc⟩ h

/-- START_EXCHANGE begins the write phase, or ends it at once if there is nothing to write (R221). -/
theorem CoreState.startExchange_cases (c : CoreState) (w : Owner) :
    let c' := ((c.withExch { c.exch with owner := w, txPos := 0 }).withBuf
      { c.buf with rxlen := 0 }).withStatus { c.status with phase := .tx }
    (c.buf.txlen = 0 ∧ c.startExchange w = c'.endWrite) ∨
    (c.buf.txlen ≠ 0 ∧ c.startExchange w = c') := by
  simp only [CoreState.startExchange]
  split
  · exact .inl ⟨‹_›, rfl⟩
  · exact .inr ⟨‹_›, rfl⟩

@[simp] theorem CoreState.startExchange_txbuf (c : CoreState) (w : Owner) :
    (c.startExchange w).buf = { c.buf with rxlen := 0 } := by
  simp only [CoreState.startExchange]; split <;> simp

/-- A poll ends in Done, in DoneUnconfirmed, or in a wait for the next poll (R258). -/
theorem CoreState.pollDecide_cases (c : CoreState) (ok : Bool) :
    (ok = true ∧ c.confirmed = true ∧ c.pollDecide ok = c.finishSeq .done) ∨
    ((ok && c.confirmed) = false ∧ c.cfg.polls.toNat ≤ c.seqInfo.pollsDone.toNat ∧
      c.pollDecide ok = c.finishSeq .doneUnconfirmed) ∨
    ((ok && c.confirmed) = false ∧ c.seqInfo.pollsDone.toNat < c.cfg.polls.toNat ∧
      c.pollDecide ok = c.startWait) := by
  unfold CoreState.pollDecide
  split
  · rename_i h
    simp only [Bool.and_eq_true] at h
    exact .inl ⟨h.1, h.2, rfl⟩
  · rename_i h
    simp only [Bool.not_eq_true] at h
    split
    · exact .inr (.inl ⟨h, ‹_›, rfl⟩)
    · exact .inr (.inr ⟨h, by omega, rfl⟩)

/-- A balance body that succeeds writes BAL_* and BAL_STAT and nothing else (R200, R204). -/
theorem balanceBody_ok {p : Params} {c c' : CoreState} (h : balanceBody p c = .ok c') :
    ∃ b, balanceFields p c.rxBytes = some b ∧ balancePrefixOk p c.cfg.addr c.rxBytes = true ∧
      c' = (c.withBal b).withBalStat
        { lock := byteAt c.rxBytes p.lockOff.val, aft := byteAt c.rxBytes p.aftOff.val,
          valid := true } := by
  unfold balanceBody at h
  split at h
  · split at h
    · rename_i hp _ b hb
      exact ⟨b, hb, hp, by cases h; rfl⟩
    · cases h
  · cases h

/-- POLL_END counts the poll and decides, with a new balance if the response gave one (R258). -/
theorem CoreState.pollEnd_cases (p : Params) (c : CoreState) (r : ExchangeOutcome) :
    let c₁ := c.withSeqInfo { c.seqInfo with pollsDone := c.seqInfo.pollsDone + 1 }
    (∃ c₂, r = .bytes ∧ balanceBody p c₁ = .ok c₂ ∧ c.pollEnd p r = c₂.pollDecide true) ∨
    ((r ≠ .bytes ∨ ∃ e, balanceBody p c₁ = .error e) ∧ c.pollEnd p r = c₁.pollDecide false) := by
  intro c₁
  unfold CoreState.pollEnd
  cases hb : balanceBody p c₁ with
  | error e =>
    refine .inr ⟨.inr ⟨e, rfl⟩, ?_⟩
    cases r with
    | bytes => simp only [c₁] at hb ⊢; rw [hb]
    | none => rfl
    | transport => rfl
  | ok c₂ =>
    cases r with
    | bytes => exact .inl ⟨c₂, rfl, rfl, by simp only [c₁] at hb ⊢; rw [hb]⟩
    | none => exact .inr ⟨.inl (by decide), rfl⟩
    | transport => exact .inr ⟨.inl (by decide), rfl⟩

/-- A retry is left exactly while RETRY_USED is 0 (R254). -/
theorem SeqInfo.retriesDone_lt (p : Params) (q : SeqInfo) :
    q.retriesDone < p.retries.val ↔ q.retryUsed = false := by
  cases h : q.retryUsed <;> simp [SeqInfo.retriesDone, h, Config.retries]

/-- What the end of an exchange does to the sequence (R254). -/
theorem CoreState.seqExchangeEnd_cases (p : Params) (c : CoreState) (r : ExchangeOutcome) :
    (r = .transport ∧ c.seqExchangeEnd p r = c.fail .transportError) ∨
    (r ≠ .transport ∧ c.status.seq = .verifyingBalance ∧ c.seqExchangeEnd p r = c.pollEnd p r) ∨
    (c.status.seq ≠ .verifyingBalance ∧ r = .bytes ∧ parseOk c.rxBytes = true ∧
      c.seqExchangeEnd p r = c.noteReply.settle) ∨
    (r ≠ .transport ∧ c.status.seq ≠ .verifyingBalance ∧ ¬ (r = .bytes ∧ parseOk c.rxBytes = true) ∧
      c.seqInfo.retryUsed = false ∧ c.seqExchangeEnd p r =
        (c.withSeqInfo { c.seqInfo with retryUsed := true }).startExchange .sequencer) ∨
    (r ≠ .transport ∧ c.status.seq ≠ .verifyingBalance ∧ ¬ (r = .bytes ∧ parseOk c.rxBytes = true) ∧
      c.seqInfo.retryUsed = true ∧ c.seqExchangeEnd p r = c.noteTimeout.settle) := by
  unfold CoreState.seqExchangeEnd
  simp only [SeqInfo.retriesDone_lt]
  split
  · exact .inl ⟨‹_›, rfl⟩
  · split
    · exact .inr (.inl ⟨‹_›, ‹_›, rfl⟩)
    · split
      · exact .inr (.inr (.inl ⟨‹_›, ‹_ ∧ _›.1, ‹_ ∧ _›.2, rfl⟩))
      · split
        · exact .inr (.inr (.inr (.inl ⟨‹_›, ‹_›, ‹_›, ‹_›, rfl⟩)))
        · rename_i h
          exact .inr (.inr (.inr (.inr ⟨‹_›, ‹_›, ‹_›, by simpa using h, rfl⟩)))

/-- END_READ closes the read attempt and hands the outcome to the owner (R227). -/
theorem CoreState.endRead_cases (p : Params) (c : CoreState) (r : ExchangeOutcome) :
    let c' := (c.withExch { c.exch with rxOpen := false }).withStatus { c.status with phase := .none }
    (c.exch.owner = .standalone ∧ c.endRead p r = c'.xchgEnd r) ∨
    (c.exch.owner = .sequencer ∧ c.endRead p r = c'.seqExchangeEnd p r) := by
  intro c'
  unfold CoreState.endRead
  cases ho : c.exch.owner
  · exact .inl ⟨rfl, by simp [ho, c']⟩
  · exact .inr ⟨rfl, by simp [ho, c']⟩

/-- What a received byte does (R222). -/
theorem CoreState.rxByte_cases (p : Params) (c : CoreState) (b : Byte) :
    (c.exch.rxOpen = false ∧ c.rxByte p b = c) ∨
    (c.exch.rxOpen = true ∧ c.rxByte p b = (c.storeRx p b).endRead p .bytes ∧
      ((3 ≤ (c.storeRx p b).buf.rxlen.toNat ∧ (c.storeRx p b).buf.rxlen.toNat =
          (Memory.read (c.storeRx p b).buf.rxbuf 2).toNat + 5) ∨
        (c.storeRx p b).buf.rxlen.toNat = p.frameMax.val)) ∨
    (c.exch.rxOpen = true ∧ c.rxByte p b = c.storeRx p b ∧
      ¬ (3 ≤ (c.storeRx p b).buf.rxlen.toNat ∧ (c.storeRx p b).buf.rxlen.toNat =
          (Memory.read (c.storeRx p b).buf.rxbuf 2).toNat + 5) ∧
      (c.storeRx p b).buf.rxlen.toNat ≠ p.frameMax.val) := by
  unfold CoreState.rxByte
  split
  · refine .inr ?_
    simp only
    split
    · exact .inl ⟨‹_›, rfl, .inl ‹_›⟩
    · split
      · exact .inl ⟨‹_›, rfl, .inr ‹_›⟩
      · exact .inr ⟨‹_›, rfl, ‹_›, ‹_›⟩
  · rename_i h
    exact .inl ⟨by simpa using h, rfl⟩

/-- What a tick of a timed wait does (R242). -/
theorem CoreState.tickWait_cases (p : Params) (c : CoreState) :
    (c.status.seq = .awaitRegistrationSettle ∧ c.cfg.tRegSettle < c.tickTimer.exch.timer ∧
      c.tickWait p = c.tickTimer.enterTransferring p) ∨
    (c.status.seq = .awaitTransferSettle ∧ c.cfg.tXferSettle < c.tickTimer.exch.timer ∧
      c.tickWait p = c.tickTimer.enterVerify p) ∨
    (c.status.seq = .verifyingBalance ∧ c.cfg.tPoll < c.tickTimer.exch.timer ∧
      c.tickWait p = c.tickTimer.startExchange .sequencer) ∨
    c.tickWait p = c.tickTimer := by
  have ht : c.tickWait p =
      if c.status.seq = .awaitRegistrationSettle ∧ c.cfg.tRegSettle < c.tickTimer.exch.timer then
        c.tickTimer.enterTransferring p
      else if c.status.seq = .awaitTransferSettle ∧ c.cfg.tXferSettle < c.tickTimer.exch.timer then
        c.tickTimer.enterVerify p
      else if c.status.seq = .verifyingBalance ∧ c.cfg.tPoll < c.tickTimer.exch.timer then
        c.tickTimer.startExchange .sequencer
      else c.tickTimer := rfl
  rw [ht]
  by_cases h1 : c.status.seq = .awaitRegistrationSettle ∧ c.cfg.tRegSettle < c.tickTimer.exch.timer
  · exact .inl ⟨h1.1, h1.2, if_pos h1⟩
  simp only [if_neg h1]
  by_cases h2 : c.status.seq = .awaitTransferSettle ∧ c.cfg.tXferSettle < c.tickTimer.exch.timer
  · exact .inr (.inl ⟨h2.1, h2.2, if_pos h2⟩)
  simp only [if_neg h2]
  by_cases h3 : c.status.seq = .verifyingBalance ∧ c.cfg.tPoll < c.tickTimer.exch.timer
  · exact .inr (.inr (.inl ⟨h3.1, h3.2, if_pos h3⟩))
  · exact .inr (.inr (.inr (if_neg h3)))

/-- What a tick does: it counts the state's time, and advances an open read attempt or a wait
(R223, R242). -/
theorem CoreState.tick_cases (p : Params) (c : CoreState) :
    let c' := c.withElapsed (c.elapsed.tick c.status.seq)
    (c.exch.rxOpen = true ∧ c'.tickTimer.exch.timer ≤ c.cfg.tRead ∧ c.tick p = c'.tickTimer) ∨
    (c.exch.rxOpen = true ∧ c.cfg.tRead < c'.tickTimer.exch.timer ∧
      c.tick p = c'.tickTimer.endRead p (if c.buf.rxlen = 0 then .none else .bytes)) ∨
    (c.exch.rxOpen = false ∧ c.status.phase = .wait ∧ c.tick p = c'.tickWait p) ∨
    (c.exch.rxOpen = false ∧ c.status.phase ≠ .wait ∧ c.tick p = c') := by
  intro c'
  have ht : c.tick p = if c.exch.rxOpen then c'.tickRead p
    else if c.status.phase = .wait then c'.tickWait p else c' := rfl
  rw [ht]
  cases hr : c.exch.rxOpen with
  | true =>
    have hread : c'.tickRead p = if c.cfg.tRead < c'.tickTimer.exch.timer then
        c'.tickTimer.endRead p (if c.buf.rxlen = 0 then .none else .bytes) else c'.tickTimer := rfl
    simp only [if_true]
    rw [hread]
    by_cases h : c.cfg.tRead < c'.tickTimer.exch.timer
    · exact .inr (.inl ⟨trivial, h, if_pos h⟩)
    · exact .inl ⟨trivial, BitVec.not_lt.mp h, if_neg h⟩
  | false =>
    simp only [Bool.false_eq_true, if_false]
    by_cases h : c.status.phase = .wait
    · exact .inr (.inr (.inl ⟨trivial, h, if_pos h⟩))
    · exact .inr (.inr (.inr ⟨trivial, h, if_neg h⟩))

end Sys2Proof.Machine
end

