-- ==== Sys2Proof/Laws/Step.lean ====
section
/-! SUPPORT. What a step does, by the next event of the schedule: one equation per event, so that later
proofs neither unfold `step` nor `fetch`. -/

namespace Sys2Proof.Machine

-- One proof at a time, so that the compile stays within the memory it is given.
set_option Elab.async false

theorem step_idle {s : State} (h : s.events = []) : step s = .next s := by
  simp [step, fetch, h]

theorem step_issue {s : State} {w : Word32} {rest : List Event} (h : s.events = .issue w :: rest) :
    step s = match decodeWord w with
      | .ok i => exec i (s.withEvents rest)
      | .error _ => .next ((s.withEvents rest).withCore (s.core.raise .illegalOp)) := by
  simp only [step, fetch, h, fetchEvent, fetchWord]
  cases decodeWord w <;> rfl

theorem step_write {s : State} {n : BitVec 6} {v : Word64} {rest : List Event}
    (h : s.events = .write n v :: rest) :
    step s = .next ((s.withEvents rest).withCore (s.core.writeReg n v)) := by
  simp [step, fetch, h, fetchEvent]

theorem step_read {s : State} {n : BitVec 6} {rest : List Event} (h : s.events = .read n :: rest) :
    step s = .next ((s.withEvents rest).withHostRead (.register (s.core.readReg n))) := by
  simp [step, fetch, h, fetchEvent]

theorem step_writeB {s : State} {m : MemSpace} {i : Nat} {b : Byte} {rest : List Event}
    (h : s.events = .writeB m i b :: rest) :
    step s = .next ((s.withEvents rest).withCore (s.core.writeMem s.params m i b)) := by
  simp [step, fetch, h, fetchEvent]

theorem step_readB {s : State} {m : MemSpace} {i : Nat} {rest : List Event}
    (h : s.events = .readB m i :: rest) :
    step s = .next ((s.withEvents rest).withHostRead (s.core.readMem m i)) := by
  simp [step, fetch, h, fetchEvent]

theorem step_txAccept {s : State} {rest : List Event} (h : s.events = .txAccept :: rest) :
    step s = .next (s.withEvents rest).acceptByte := by
  simp [step, fetch, h, fetchEvent]

theorem step_rxByte {s : State} {b : Byte} {rest : List Event} (h : s.events = .rxByte b :: rest) :
    step s = .next ((s.withEvents rest).deliverByte b) := by
  simp [step, fetch, h, fetchEvent]

theorem step_chanErr {s : State} {rest : List Event} (h : s.events = .chanErr :: rest) :
    step s = .next ((s.withEvents rest).withCore (s.core.chanErr s.params)) := by
  simp [step, fetch, h, fetchEvent]

theorem step_tick {s : State} {rest : List Event} (h : s.events = .tick :: rest) :
    step s = .next ((s.withEvents rest).withCore (s.core.tick s.params)) := by
  simp [step, fetch, h, fetchEvent]

theorem step_reset {s : State} {rest : List Event} (h : s.events = .reset :: rest) :
    step s = .next ((s.withEvents rest).withCore .reset) := by
  simp [step, fetch, h, fetchEvent]

theorem step_txFrame {s : State} {rest : List Event} (h : s.events = .txFrame :: rest) :
    step s = match fetchSent (s.withEvents rest) with
      | .instr i s' => exec i s'
      | .reaction s' => .next s' := by
  have h' : fetch s = fetchSent (s.withEvents rest) := by simp [fetch, h, fetchEvent]
  cases hf : fetchSent (s.withEvents rest) <;> simp [step, h', hf]

theorem step_rxFrame {s : State} {bs : List Byte} {rest : List Event}
    (h : s.events = .rxFrame bs :: rest) :
    step s = match decodeReceived bs with
      | .ok i => exec i (s.withEvents rest)
      | .error _ => .next ((s.withEvents rest).deliverBytes bs) := by
  cases hd : decodeReceived bs <;> simp [step, fetch, h, fetchEvent, fetchReceived, hd]

/-- A run of TX_ACCEPT events keeps everything but the CORE and the wire. -/
theorem acceptByte_keeps (s : State) :
    s.acceptByte.params = s.params ∧ s.acceptByte.events = s.events ∧
      s.acceptByte.hostRead = s.hostRead := by
  unfold State.acceptByte; split <;> simp

theorem acceptBytes_keeps (n : Nat) (s : State) :
    (State.acceptBytes n s).params = s.params ∧ (State.acceptBytes n s).events = s.events ∧
      (State.acceptBytes n s).hostRead = s.hostRead := by
  induction n generalizing s with
  | zero => simp [State.acceptBytes]
  | succ n ih =>
    have h1 := ih s.acceptByte
    have h2 := acceptByte_keeps s
    simp only [State.acceptBytes]
    exact ⟨h1.1.trans h2.1, h1.2.1.trans h2.2.1, h1.2.2.trans h2.2.2⟩

/-- A run of RX_BYTE events keeps everything but the CORE and the wire, and the wire grows by the
bytes delivered. -/
theorem deliverBytes_keeps (s : State) (bs : List Byte) :
    (s.deliverBytes bs).params = s.params ∧ (s.deliverBytes bs).events = s.events ∧
      (s.deliverBytes bs).hostRead = s.hostRead ∧
      (s.deliverBytes bs).wire = s.wire ++ bs.map WireByte.received := by
  induction bs generalizing s with
  | nil => simp [State.deliverBytes]
  | cons b bs ih =>
    have h := ih (s.deliverByte b)
    simp only [State.deliverBytes, List.foldl_cons] at h ⊢
    refine ⟨h.1, h.2.1, h.2.2.1, h.2.2.2.trans ?_⟩
    simp [State.deliverByte]

end Sys2Proof.Machine
end

