-- ==== Sys2Proof/Laws/Attempt.lean ====
section
/-! SUPPORT. What the event does that ends a read attempt of a sequence (R222, R223, R227), and what
R144 and R200 make of the bytes received, in the terms of Safety. -/

namespace Sys2Proof.Machine

-- One proof at a time, so that the compile stays within the memory it is given.
set_option Elab.async false

/-- PARSEOK holds exactly of frames (R144). -/
theorem parseOk_iff (bs : List Byte) : parseOk bs = true ↔ IsFrame bs := by
  simp only [parseOk, IsFrame, Bool.and_eq_true, decide_eq_true_eq, beq_iff_eq]
  omega

/-- The balance a response shows is what R200 reads from it. -/
theorem shownBalance_eq (p : Params) (addr : Byte) (bs : List Byte) :
    shownBalance addr bs = if balancePrefixOk p addr bs then balanceFields p bs else none := by
  have hp : balancePrefixOk p addr bs = true ↔
      27 ≤ bs.length ∧ byteAt bs 0 = addr ∧ byteAt bs 1 = 0x74 := by
    simp [balancePrefixOk, Config.balMin, and_assoc]
  simp only [shownBalance, hp, balanceFields, Fixed.val_eq, Config.cashOff, Config.restOff,
    Config.nonrOff, Config.amountLen, resultValue_eq] <;> rfl

/-- The body of R200 succeeds exactly on a response that shows a balance, and then takes it. -/
theorem balanceBody_shown (p : Params) (c : CoreState) :
    (∃ b, shownBalance c.cfg.addr c.rxBytes = some b ∧
      balanceBody p c = .ok ((c.withBal b).withBalStat
        { lock := byteAt c.rxBytes p.lockOff.val, aft := byteAt c.rxBytes p.aftOff.val,
          valid := true })) ∨
    (shownBalance c.cfg.addr c.rxBytes = none ∧ ∃ e, balanceBody p c = .error e) := by
  rw [shownBalance_eq p, balanceBody]
  split
  · cases balanceFields p c.rxBytes with
    | some b => exact .inl ⟨b, rfl, rfl⟩
    | none => exact .inr ⟨rfl, _, rfl⟩
  · exact .inr ⟨rfl, _, rfl⟩

/-- RXBUF[0..RXLEN) after a byte was stored (R222). -/
theorem CoreState.storeRx_rxBytes (p : Params) (c : CoreState) (b : Byte)
    (hwf : Memory.wf Config.frameMax c.buf.rxbuf = true) (h : c.buf.rxlen.toNat < 260) :
    (c.storeRx p b).rxBytes = c.rxBytes ++ [b] := by
  have hlen : (c.buf.rxlen + 1).toNat = c.buf.rxlen.toNat + 1 := by
    rw [BitVec.toNat_add]; simp; omega
  simp only [CoreState.storeRx_eq, CoreState.rxBytes, CoreState.withBuf, Memory.readRange, hlen,
    List.range_succ, List.map_append, List.map_cons, List.map_nil, Nat.zero_add]
  congr 1
  · apply List.map_congr_left
    intro k hk
    rw [Memory.read_write hwf, if_neg]
    have := List.mem_range.mp hk
    omega
  · rw [Memory.read_write hwf, if_pos ⟨rfl, by simpa [Config.frameMax] using h⟩]

/-- What is left for the sequence when its read attempt ended: the same CORE with other contents of
RXBUF, another ELAPSED and TIMER, the attempt closed and PHASE NONE. -/
def attemptEnded (c : CoreState) (rxbuf : Memory) (rxlen : BitVec 9) (el : Elapsed) (tm : Word32) :
    CoreState :=
  (((c.withBuf { c.buf with rxbuf := rxbuf, rxlen := rxlen }).withElapsed el).withExch
    { c.exch with rxOpen := false, timer := tm }).withStatus { c.status with phase := .none }

/-- The event that ends a read attempt of a sequence hands its outcome to the sequencer (R227). -/
theorem step_endsReadAttempt {s : State} {e : Event} {rest : List Event} {bs : List Byte}
    (hev : s.events = e :: rest) (hr : s.core.exch.rxOpen = true)
    (ho : s.core.exch.owner = .sequencer) (he : EndsReadAttempt s.core e bs) :
    ∃ (t : State) (rxbuf : Memory) (rxlen : BitVec 9) (el : Elapsed) (tm : Word32),
      step s = .next t ∧
      t.core = (attemptEnded s.core rxbuf rxlen el tm).seqExchangeEnd s.params
        (if bs = [] then .none else .bytes) ∧
      (attemptEnded s.core rxbuf rxlen el tm).rxBytes = bs ∧
      (e = .tick → rxbuf = s.core.buf.rxbuf ∧ rxlen = s.core.buf.rxlen) := by
  rcases he with ⟨b, rfl, hwf, rfl, hend⟩ | ⟨rfl, rfl, ht⟩
  · have hlen : (s.core.rxBytes ++ [b]).length = s.core.buf.rxlen.toNat + 1 := by
      simp [CoreState.rxBytes]
    have hroom : s.core.buf.rxlen.toNat < 260 := by
      have := (byteAt (s.core.rxBytes ++ [b]) 2).isLt
      rcases hend with ⟨_, h⟩ | h <;> omega
    have hb := CoreState.storeRx_rxBytes s.params s.core b hwf hroom
    have hl : (s.core.storeRx s.params b).buf.rxlen.toNat = s.core.buf.rxlen.toNat + 1 := by
      rw [← hlen, ← hb]; simp [CoreState.rxBytes]
    refine ⟨_, (s.core.storeRx s.params b).buf.rxbuf, s.core.buf.rxlen + 1, s.core.elapsed,
      s.core.exch.timer, step_rxByte hev, ?_, hb, nofun⟩
    have hdone : (3 ≤ (s.core.storeRx s.params b).buf.rxlen.toNat ∧
        (s.core.storeRx s.params b).buf.rxlen.toNat =
          (Memory.read (s.core.storeRx s.params b).buf.rxbuf 2).toNat + 5) ∨
        (s.core.storeRx s.params b).buf.rxlen.toNat = s.params.frameMax.val := by
      rcases hend with ⟨h3, h⟩ | h
      · rw [← hb] at h h3
        have h2 : byteAt (s.core.storeRx s.params b).rxBytes 2 =
            Memory.read (s.core.storeRx s.params b).buf.rxbuf 2 := by
          simp only [CoreState.rxBytes, Memory.readRange_length] at h3 ⊢
          simp only [byteAt, Memory.readRange, List.getD_eq_getElem?_getD]
          rw [List.getElem?_map, List.getElem?_range (by omega)]
          simp
        rw [h2] at h
        simp only [CoreState.rxBytes, Memory.readRange_length] at h h3
        exact .inl ⟨h3, h⟩
      · exact .inr (by rw [hl, ← hlen, h]; simp [Config.frameMax])
    rcases CoreState.rxByte_cases s.params s.core b with ⟨h, _⟩ | ⟨_, h, _⟩ | ⟨_, _, h₁, h₂⟩
    · exact absurd hr (by simp [h])
    · have hne : s.core.rxBytes ++ [b] ≠ [] := by simp
      rw [if_neg hne]
      simp only [State.deliverByte, State.withCore_core, State.withEvents_params,
        State.withEvents_core]
      rw [h]
      rcases CoreState.endRead_cases s.params (s.core.storeRx s.params b) .bytes with
        ⟨h', _⟩ | ⟨_, h'⟩
      · exact absurd ho (by simpa using h' ▸ (by decide))
      · exact h'
    · exact absurd hdone (by tauto)
  · refine ⟨_, s.core.buf.rxbuf, s.core.buf.rxlen, s.core.elapsed.tick s.core.status.seq,
      satInc s.core.exch.timer, step_tick hev, ?_, rfl, fun _ => ⟨rfl, rfl⟩⟩
    have hlt : s.core.cfg.tRead < satInc s.core.exch.timer := by
      rw [BitVec.lt_def]
      unfold satInc
      have := s.core.exch.timer.isLt
      split
      · rename_i h; rw [h] at ht ⊢; simp at ht ⊢; omega
      · rename_i h
        have : s.core.exch.timer.toNat ≠ 2 ^ 32 - 1 := fun h' => h (by
          rw [← BitVec.toNat_inj, BitVec.toNat_allOnes]; exact h')
        rw [BitVec.toNat_add]; simp; omega
    have hbs : (s.core.rxBytes = []) ↔ s.core.buf.rxlen = 0 := by
      rw [← List.length_eq_zero_iff, CoreState.rxBytes, Memory.readRange_length,
        ← BitVec.toNat_inj]
      rfl
    rcases CoreState.tick_cases s.params s.core with ⟨_, h, _⟩ | ⟨_, _, h⟩ | ⟨h, _⟩ | ⟨h, _⟩
    · exact absurd h (BitVec.not_le.mpr hlt)
    · simp only [State.withCore_core]
      rw [h]
      rcases CoreState.endRead_cases s.params
          (s.core.withElapsed (s.core.elapsed.tick s.core.status.seq)).tickTimer
          (if s.core.buf.rxlen = 0 then .none else .bytes) with ⟨h', _⟩ | ⟨_, h'⟩
      · exact absurd ho (by simpa using h' ▸ (by decide))
      · simp only [hbs]; exact h'
    · exact absurd hr (by simp [h])
    · exact absurd hr (by simp [h])

end Sys2Proof.Machine
end

