-- ==== Sys2Proof/Laws/Codec.lean ====
section
/-! SUPPORT. Small laws of the byte orders, the decimal digits, the digit bytes and the frames: lengths,
the recursion of `digits`, and what the byte-order helpers undo. -/

namespace Sys2Proof

-- One proof at a time, so that the compile stays within the memory it is given.
set_option Elab.async false

@[simp] theorem le16_length (v : Word16) : (le16 v).length = 2 := rfl
@[simp] theorem le32_length (v : Word32) : (le32 v).length = 4 := rfl

theorem ofLe32_le32 (v : Word32) : ofLe32 (le32 v) = v := by
  simp only [le32, ofLe32]
  apply BitVec.eq_of_getLsbD_eq
  intro i hi
  simp only [BitVec.getLsbD_append, BitVec.getLsbD_extractLsb', Nat.zero_add]
  split
  · simp [*]
  · split
    · have : 8 + (i - 8) = i := by omega
      simp [*]
    · split
      · have : 16 + (i - 8 - 8) = i := by omega
        simp [*]
      · have h1 : 24 + (i - 8 - 8 - 8) = i := by omega
        have h2 : i - 8 - 8 - 8 < 8 := by omega
        simp [h1, h2]

theorem ofLe16_le16 (v : Word16) :
    ofLe16 (v.extractLsb' 0 8) (v.extractLsb' 8 8) = v := by
  simp only [ofLe16]
  apply BitVec.eq_of_getLsbD_eq
  intro i hi
  simp only [BitVec.getLsbD_append, BitVec.getLsbD_extractLsb', Nat.zero_add]
  split
  · simp [*]
  · have h1 : 8 + (i - 8) = i := by omega
    have h2 : i - 8 < 8 := by omega
    simp [h1, h2]

/-! Decimal digits. -/

theorem digitsAux_append (fuel v : Nat) (acc : List Nat) :
    digitsAux fuel v acc = digitsAux fuel v [] ++ acc := by
  induction fuel generalizing v acc with
  | zero => rfl
  | succ fuel ih =>
    simp only [digitsAux]
    split
    · rfl
    · rw [ih, ih (v / 10) [v % 10]]; simp

/-- More fuel than the value changes nothing. -/
theorem digitsAux_fuel (f g v : Nat) (hf : v < f) (hg : v < g) :
    digitsAux f v [] = digitsAux g v [] := by
  induction f generalizing g v with
  | zero => omega
  | succ f ih =>
    cases g with
    | zero => omega
    | succ g =>
      simp only [digitsAux]
      split
      · rfl
      · rw [digitsAux_append f, digitsAux_append g, ih g (v / 10) (by omega) (by omega)]

theorem digits_small {v : Nat} (h : v < 10) : digits v = [v] := by
  simp [digits, digitsAux, h]

theorem digits_step {v : Nat} (h : 10 ≤ v) : digits v = digits (v / 10) ++ [v % 10] := by
  have hn : ¬ v < 10 := by omega
  have h1 : digits v = digitsAux v (v / 10) [v % 10] := by
    simp only [digits]; rw [digitsAux, if_neg hn]
  rw [h1, digitsAux_append, digitsAux_fuel v (v / 10 + 1) (v / 10) (by omega) (by omega)]
  rfl

theorem digits_length_pos (v : Nat) : 1 ≤ (digits v).length := by
  by_cases h : v < 10
  · simp [digits_small h]
  · simp [digits_step (Nat.le_of_not_lt h)]

/-- `digits(v)` has at most k digits exactly when v < 10^k (R100: "equivalently"). -/
theorem digits_length_le_iff (k v : Nat) : (digits v).length ≤ k + 1 ↔ v < 10 ^ (k + 1) := by
  induction k generalizing v with
  | zero =>
    by_cases h : v < 10
    · simp [digits_small h, h]
    · have := digits_length_pos (v / 10)
      simp only [digits_step (Nat.le_of_not_lt h), List.length_append, List.length_singleton]
      constructor <;> intro <;> omega
  | succ k ih =>
    by_cases h : v < 10
    · have : 10 ≤ 10 ^ (k + 1 + 1) := by
        calc 10 = 10 ^ 1 := by norm_num
          _ ≤ 10 ^ (k + 1 + 1) := Nat.pow_le_pow_right (by norm_num) (by omega)
      simp [digits_small h]; omega
    · simp only [digits_step (Nat.le_of_not_lt h), List.length_append, List.length_singleton]
      rw [Nat.add_le_add_iff_right, ih, Nat.pow_succ 10 (k + 1)]
      omega

/-- A transaction id has 1 to 10 digits (R89). -/
theorem id_digits_length (id : Word32) : (digits id.toNat).length ≤ 10 :=
  (digits_length_le_iff 9 id.toNat).mpr (by have := id.isLt; omega)

theorem packDigits_length (n : Nat) (ds : List Nat) (h : ds.length = 2 * n) :
    (packDigits ds).length = n := by
  induction n generalizing ds with
  | zero =>
    have : ds = [] := List.eq_nil_of_length_eq_zero (by omega)
    simp [this, packDigits]
  | succ n ih =>
    match ds, h with
    | a :: b :: rest, h => simp [packDigits, ih rest (by simp at h; omega)]

/-- A value that fits gives exactly n bytes (R100). -/
theorem bcdBytes_length (v n : Nat) (h : (digits v).length ≤ 2 * n) : (bcdBytes v n).length = n := by
  apply packDigits_length
  simp only [List.length_append, List.length_replicate]
  omega

/-- An amount below 10^10 cents takes five bytes (R183). -/
theorem amount_bytes_length {v : Nat} (h : v < Config.amountLimit) :
    (bcdBytes v Config.amountLen).length = 5 := by
  apply bcdBytes_length
  exact (digits_length_le_iff 9 v).mpr h

@[simp] theorem asciiOfId_length (id : Word32) :
    (asciiOfId id).length = (digits id.toNat).length := by simp [asciiOfId]

/-! Frames. -/

@[simp] theorem buildFrame_length (a c : Byte) (p : List Byte) :
    (buildFrame a c p).length = p.length + 5 := by
  simp [buildFrame, frameBody]

theorem buildFrame_head (a c : Byte) (p : List Byte) :
    byteAt (buildFrame a c p) 0 = a ∧ byteAt (buildFrame a c p) 1 = c ∧
      byteAt (buildFrame a c p) 2 = BitVec.ofNat 8 p.length := ⟨rfl, rfl, rfl⟩

/-- A built frame parses (R144, R146). -/
theorem parseOk_buildFrame (a c : Byte) (p : List Byte) (h : p.length ≤ 255) :
    parseOk (buildFrame a c p) = true := by
  have h2 : (byteAt (buildFrame a c p) 2).toNat = p.length := by
    rw [(buildFrame_head a c p).2.2, BitVec.toNat_ofNat]; omega
  simp [parseOk, h2]
  omega

theorem MeterItem.bytes_length (i : MeterItem) : i.bytes.length = i.size := by
  cases i <;> simp [MeterItem.bytes, MeterItem.size]; omega

theorem MeterResponse.payload_length (r : MeterResponse) :
    r.payload.length = (r.items.map MeterItem.size).sum := by
  simp [MeterResponse.payload, List.length_flatMap, MeterItem.bytes_length]

end Sys2Proof
end

