-- ==== Sys2Proof/Laws/PerInstr.lean ====
section
/-! SUPPORT. Statements about every instruction, one lemma per constructor. `EncodeSize`: a well-formed
instruction is one 32-bit word (R80) or a frame of 5 to 260 bytes (R86, R40). -/

namespace Sys2Proof.Laws

-- One proof at a time, so that the compile stays within the memory it is given.
set_option Elab.async false

/-- The number of bytes lies within what the layout and the buffers allow. -/
def EncodeSize.Within (e : Encoded) : Prop :=
  match e with
  | .word _ => True
  | .sent bs => 5 ≤ bs.length ∧ bs.length ≤ Config.frameMax
  | .received bs => 5 ≤ bs.length ∧ bs.length ≤ Config.frameMax

/-- A well-formed instruction's encoding has a size the hardware can hold. -/
def EncodeSize.Statement (i : Instr) : Prop := i.wf = true → EncodeSize.Within (encode i)

theorem EncodeSize.nop : EncodeSize.Statement .nop := fun _ => trivial
theorem EncodeSize.crc16 (source : CrcSource) : EncodeSize.Statement (.crc16 source) := fun _ => trivial
theorem EncodeSize.bcdEnc (byteLen : Byte) : EncodeSize.Statement (.bcdEnc byteLen) := fun _ => trivial
theorem EncodeSize.bcdDec (byteLen : Byte) : EncodeSize.Statement (.bcdDec byteLen) := fun _ => trivial
theorem EncodeSize.frameBuild (command : Byte) : EncodeSize.Statement (.frameBuild command) :=
  fun _ => trivial
theorem EncodeSize.frameParse : EncodeSize.Statement .frameParse := fun _ => trivial
theorem EncodeSize.meterParse : EncodeSize.Statement .meterParse := fun _ => trivial
theorem EncodeSize.buildReg : EncodeSize.Statement .buildReg := fun _ => trivial
theorem EncodeSize.buildXfer (type : TransferType) : EncodeSize.Statement (.buildXfer type) :=
  fun _ => trivial
theorem EncodeSize.buildBalq : EncodeSize.Statement .buildBalq := fun _ => trivial
theorem EncodeSize.balParse : EncodeSize.Statement .balParse := fun _ => trivial
theorem EncodeSize.xchg : EncodeSize.Statement .xchg := fun _ => trivial
theorem EncodeSize.aftStart (type : TransferType) : EncodeSize.Statement (.aftStart type) :=
  fun _ => trivial
theorem EncodeSize.aftCancel : EncodeSize.Statement .aftCancel := fun _ => trivial
theorem EncodeSize.aftClear : EncodeSize.Statement .aftClear := fun _ => trivial

theorem EncodeSize.wireAftRegistration (frame : RegistrationFrame) :
    EncodeSize.Statement (.wireAftRegistration frame) := by
  intro h
  simp only [Instr.wf, RegistrationFrame.wf, Bool.and_eq_true, beq_iff_eq, Config.keyLen,
    Config.posFieldLen] at h
  simp [EncodeSize.Within, encode, RegistrationFrame.payload, h.1, h.2, Config.frameMax]

theorem EncodeSize.wireAftTransfer (frame : TransferFrame) :
    EncodeSize.Statement (.wireAftTransfer frame) := by
  intro h
  simp only [Instr.wf, TransferFrame.wf, Bool.and_eq_true, beq_iff_eq, decide_eq_true_eq,
    Config.keyLen] at h
  have hid := id_digits_length frame.transactionId
  simp only [EncodeSize.Within, encode, buildFrame_length, TransferFrame.payload, Config.frameMax,
    List.length_append, List.length_cons, List.length_nil, amount_bytes_length h.1.1.1,
    amount_bytes_length h.1.1.2, amount_bytes_length h.1.2, le32_length, le16_length, h.2,
    asciiOfId_length]
  omega

theorem EncodeSize.wireBalanceQuery (address : Byte) :
    EncodeSize.Statement (.wireBalanceQuery address) := by
  intro _
  simp [EncodeSize.Within, encode, Config.frameMax]

theorem EncodeSize.wireBalanceResponse (response : BalanceResponse) :
    EncodeSize.Statement (.wireBalanceResponse response) := by
  intro h
  simp only [Instr.wf, BalanceResponse.wf, Bool.and_eq_true, beq_iff_eq, decide_eq_true_eq] at h
  simp only [Config.amountLen, Config.frameMax, Config.balMin] at h
  simp only [EncodeSize.Within, encode, BalanceResponse.bytes, List.length_append, List.length_cons,
    List.length_nil, Config.frameMax]
  omega

theorem EncodeSize.wireMeterRead (address : Byte) (payload : List Byte) :
    EncodeSize.Statement (.wireMeterRead address payload) := by
  intro h
  simp only [Instr.wf, decide_eq_true_eq] at h
  simp only [EncodeSize.Within, encode, buildFrame_length, Config.frameMax]
  omega

theorem EncodeSize.wireMeterResponse (response : MeterResponse) :
    EncodeSize.Statement (.wireMeterResponse response) := by
  intro h
  simp only [Instr.wf, MeterResponse.wf, Bool.and_eq_true, decide_eq_true_eq] at h
  have hp := response.payload_length
  simp only [EncodeSize.Within, encode, MeterResponse.bytes, frameBody, List.length_append,
    List.length_cons, le16_length, Config.frameMax]
  omega

end Sys2Proof.Laws
end

