-- ==== Sys2Proof/Tests/Slice0.lean ====
section
/-! SUPPORT. Tests: the WellFormed smoke tests, the decoding of words and frames written out from
spec/30_encoding.md, single steps with the results of spec/95_test_vectors.md, and, for each statement
with hypotheses, a concrete case that meets them (`witness_<statement>`). -/

namespace Sys2Proof.Tests

-- One proof at a time, so that the compile stays within the memory it is given.
set_option Elab.async false

open Sys2Proof Sys2Proof.Machine

/-! Small states. -/

/-- The configuration of the vectors: address 01, asset 0x6C, posId "POS0". -/
def base : CoreState :=
  { CoreState.reset with
    cfg := { ConfigRegs.reset with addr := 1, asset := 0x6C, posId := 0x30534F50, posLen := 4 } }

/-- A state with these events to come. -/
def mk (c : CoreState) (es : List Event) : State := { State.reset with core := c, events := es }

/-- A memory that holds these bytes from index 0. -/
def mem (bs : List Byte) : Memory := Memory.writeRange 260 [] 0 bs

def withTx (c : CoreState) (bs : List Byte) : CoreState := c.loadTx .default bs

def withRx (c : CoreState) (bs : List Byte) : CoreState :=
  c.withBuf { c.buf with rxbuf := mem bs, rxlen := BitVec.ofNat 9 bs.length }

def withPay (c : CoreState) (bs : List Byte) : CoreState :=
  c.withBuf { c.buf with pbuf := mem bs, plen := BitVec.ofNat 8 bs.length }

def withVal (c : CoreState) (v : Nat) : CoreState :=
  c.withOpnd { c.opnd with value := BitVec.ofNat 64 v }

def withDigits (c : CoreState) (v : Word64) : CoreState := c.withOpnd { c.opnd with bcd := v }

def withSeq (c : CoreState) (q : SeqState) (p : Phase) : CoreState :=
  (c.withStatus { c.status with seq := q, phase := p }).withExch
    { c.exch with owner := .sequencer, rxOpen := p == .rx }

/-- A standalone exchange in its write phase. -/
def writing (c : CoreState) : CoreState :=
  (c.withStatus { c.status with phase := .tx }).withExch { c.exch with xchgAct := true }

/-- A standalone exchange in its read attempt. -/
def reading (c : CoreState) : CoreState :=
  (c.withStatus { c.status with phase := .rx }).withExch
    { c.exch with xchgAct := true, rxOpen := true }

/-- The CORE after one step. -/
def one (c : CoreState) (e : Event) : CoreState :=
  match step (mk c [e]) with
  | .next t => t.core
  | _ => c

/-- The CORE after an instruction. -/
def run (i : Instr) (c : CoreState) : CoreState :=
  match exec i (mk c []) with
  | .next t => t.core
  | _ => c

/-- B1 of 95_test_vectors.md: 10000 cents cashable. -/
def b1 : List Byte :=
  [0x01, 0x74, 0x18, 0x6C, 0, 0, 0, 0, 0, 0, 0, 0, 0, 0, 0x01, 0, 0] ++ List.replicate 10 0
    ++ [0xE7, 0xF0]

/-- REG1 of 95_test_vectors.md. -/
def reg1 : List Byte :=
  [0x01, 0x73, 0x1D, 0x01, 0x6C, 0, 0, 0] ++ List.replicate 20 0
    ++ [0x50, 0x4F, 0x53, 0x30, 0xA3, 0xCF]

/-- XF3 of 95_test_vectors.md. -/
def xf3 : List Byte :=
  [0x01, 0x72, 0x35, 0, 0, 0, 0, 0, 0, 0, 0, 0, 0, 0, 0x02, 0x50, 0, 0, 0, 0, 0, 0,
   0x6C, 0, 0, 0] ++ List.replicate 20 0
    ++ [0x02, 0x34, 0x32, 0, 0, 0, 0, 0, 0, 0, 0x2A, 0xED]

/-- M1b of 95_test_vectors.md. -/
def m1b : List Byte :=
  [0x01, 0xAF, 0x11, 0x00, 0x00, 0x0C, 0x00, 0x04, 0x00, 0x01, 0x23, 0x45, 0x1A, 0x00, 0x05, 0x00,
   0x00, 0x12, 0x34, 0x56, 0xAE, 0x42]

/-- BALQ: the balance query of address 01. -/
def balq : List Byte := [0x01, 0x74, 0x00, 0x78, 0xCD]

def regFields : RegistrationFrame :=
  { address := 1, assetNumber := 0x6C, registrationKey := List.replicate 20 0,
    posId := [0x50, 0x4F, 0x53, 0x30] }

def xferFields : TransferFrame :=
  { address := 1, transferCode := 0, transferIndex := 0, transferTypeByte := 0, cashable := 0,
    restricted := 250, nonRestricted := 0, transferFlags := 0, assetNumber := 0x6C,
    registrationKey := List.replicate 20 0, transactionId := 42, poolId := 0 }

def balFields : BalanceResponse :=
  { address := 1, lengthByte := 0x18, header := [0x6C, 0, 0, 0, 0, 0, 0, 0, 0],
    cashable := [0, 0, 0x01, 0, 0], restricted := List.replicate 5 0,
    nonRestricted := List.replicate 5 0, tail := [0xE7, 0xF0] }

def meterFields : MeterResponse :=
  { address := 1
    items := [.padding, .padding, .entry 0x0C 0 [0x00, 0x01, 0x23, 0x45],
      .entry 0x1A 0 [0x00, 0x00, 0x12, 0x34, 0x56]]
    crc := 0x42AE }

/-! WellFormed refuses an ill-formed term of each check. -/

theorem test_wf_refuses_byte_length :
    Instr.wf (.bcdEnc 0) = false ∧ Instr.wf (.bcdEnc 9) = false ∧ Instr.wf (.bcdDec 0) = false ∧
    Instr.wf (.bcdDec 9) = false ∧ Instr.wf (.bcdEnc 8) = true ∧ Instr.wf (.bcdDec 1) = true := by
  decide

theorem test_wf_refuses_registration_lengths :
    regFields.wf = true ∧ { regFields with registrationKey := [] }.wf = false ∧
    { regFields with posId := [0x50] }.wf = false := by decide +kernel

theorem test_wf_refuses_transfer_amounts_and_key :
    xferFields.wf = true ∧ { xferFields with cashable := 10 ^ 10 }.wf = false ∧
    { xferFields with restricted := 10 ^ 10 }.wf = false ∧
    { xferFields with nonRestricted := 10 ^ 10 }.wf = false ∧
    { xferFields with registrationKey := [1] }.wf = false := by decide +kernel

theorem test_wf_refuses_balance_lengths :
    balFields.wf = true ∧ { balFields with header := [] }.wf = false ∧
    { balFields with cashable := [0] }.wf = false ∧ { balFields with restricted := [0] }.wf = false ∧
    { balFields with nonRestricted := [0] }.wf = false ∧
    { balFields with tail := List.replicate 234 0 }.wf = false := by decide +kernel

theorem test_wf_refuses_meter_items :
    meterFields.wf = true ∧ { meterFields with items := [.entry 0 0 [1]] }.wf = false ∧
    { meterFields with items := [.entry 1 0 []] }.wf = false ∧
    { meterFields with items := [.entry 1 0 (List.replicate 10 0)] }.wf = false ∧
    { meterFields with items := List.replicate 256 .padding }.wf = false := by decide +kernel

theorem test_wf_refuses_long_payload :
    Instr.wf (.wireMeterRead 1 (List.replicate 256 0)) = false ∧
    Instr.wf (.wireMeterRead 1 (List.replicate 255 0)) = true := by decide +kernel

/-! Decoding: words of R80 to R82, ARG in bits 15 to 8 and OP in bits 7 to 0. -/

theorem test_decode_words :
    decodeWord 0b00000000000000000000000000000000 = .ok .nop ∧
    decodeWord 0b00000000000000000000001000000001 = .ok (.crc16 .rxbuf) ∧
    decodeWord 0b00000000000000000000010100000010 = .ok (.bcdEnc 5) ∧
    decodeWord 0b00000000000000000000001100000011 = .ok (.bcdDec 3) ∧
    decodeWord 0b00000000000000001010111100000100 = .ok (.frameBuild 0xAF) ∧
    decodeWord 0b00000000000000000000000000000101 = .ok .frameParse ∧
    decodeWord 0b00000000000000000000000000000110 = .ok .meterParse ∧
    decodeWord 0b00000000000000000000000000000111 = .ok .buildReg ∧
    decodeWord 0b00000000000000000000000100001000 = .ok (.buildXfer .restricted) ∧
    decodeWord 0b00000000000000000000000000001001 = .ok .buildBalq ∧
    decodeWord 0b00000000000000000000000000001010 = .ok .balParse ∧
    decodeWord 0b00000000000000000000000000010000 = .ok .xchg ∧
    decodeWord 0b00000000000000000000001000100000 = .ok (.aftStart .nonRestricted) ∧
    decodeWord 0b00000000000000000000000000100001 = .ok .aftCancel ∧
    decodeWord 0b00000000000000000000000000100010 = .ok .aftClear := by decide +kernel

theorem test_decode_illegal_words :
    decodeWord 0x00010010 = .error .reservedNotZero ∧ decodeWord 0x0000000B = .error .unknownOp ∧
    decodeWord 0x00000023 = .error .unknownOp ∧ decodeWord 0x00000002 = .error .argOutOfDomain ∧
    decodeWord 0x00000902 = .error .argOutOfDomain ∧ decodeWord 0x00000308 = .error .argOutOfDomain ∧
    decodeWord 0x00000320 = .error .argOutOfDomain ∧
    decodeWord 0x00000100 = .error .argOutOfDomain := by decide +kernel

/-- Frames of 95_test_vectors.md, byte for byte: REG1, XF3, the balance query, a meter read, B1, M1b. -/
theorem test_decode_frames :
    decodeSent reg1 = .ok (.wireAftRegistration regFields) ∧
    decodeSent xf3 = .ok (.wireAftTransfer xferFields) ∧
    decodeSent balq = .ok (.wireBalanceQuery 1) ∧
    decodeSent [0x01, 0xAF, 0x02, 0x00, 0x0C, 0x54, 0x64] = .ok (.wireMeterRead 1 [0x00, 0x0C]) ∧
    decodeReceived b1 = .ok (.wireBalanceResponse balFields) ∧
    decodeReceived m1b = .ok (.wireMeterResponse meterFields) := by decide +kernel

theorem test_decode_bad_frames :
    decodeSent [0x01, 0x74, 0x00, 0x00, 0x00] = .error .badCrc ∧
    decodeSent [0x01, 0x74] = .error .tooShort ∧
    decodeSent [0x01, 0x74, 0x01, 0x78, 0xCD] = .error .badLength ∧
    decodeReceived [0x01, 0x73, 0x00, 0x70, 0x80] = .error .unknownCommand ∧
    decodeReceived (b1.take 26) = .error .tooShort := by decide +kernel

/-- The host's table words: a command byte of 8 bits is read in the direction CORE to machine (log 6). -/
theorem test_decode_table_words :
    decodeTableWord 32 0x22 = some .aftClear ∧ decodeTableWord 32 0x102 = some (.bcdEnc 1) ∧
    decodeTableWord 32 0x02 = none ∧ decodeTableWord 8 0x74 = some (.wireBalanceQuery 0) ∧
    decodeTableWord 8 0xAF = some (.wireMeterRead 0 []) := by decide +kernel

/-! Single steps, with the results of 95_test_vectors.md. -/

theorem test_nop : (run .nop (base.setErr .responseTooShort)).statusWord = 0 := by decide +kernel

theorem test_crc16 :
    (run (.crc16 .pbuf) (withPay base [1, 2, 3])).res.crc = 0x5BF7 ∧
    (run (.crc16 .txbuf) (withTx base [1, 0xAF, 3, 1, 2, 3, 0x29, 0xFA])).res.crc = 0 := by
  decide +kernel

theorem test_bcd_enc : (run (.bcdEnc 5) (withVal base 10000)).res.bcd = 0x0000010000 ∧
    (run (.bcdEnc 1) (withVal base 100)).status.err = .encodingError := by decide +kernel

theorem test_bcd_dec : (run (.bcdDec 4) (withDigits base 0x123456789)).res.value = 23456789 ∧
    (run (.bcdDec 1) (withDigits base 0x1A)).status.err = .digitError := by decide +kernel

theorem test_frame_build :
    (run (.frameBuild 0xAF) (withPay base [1, 2, 3])).txFrame =
      [0x01, 0xAF, 0x03, 0x01, 0x02, 0x03, 0x29, 0xFA] := by decide +kernel

theorem test_frame_parse :
    (run .frameParse (withRx base [0x22, 0x99, 3, 1, 2, 3, 0x7D, 0x9C])).res.frameWord = 0x039922 ∧
    (run .frameParse (withRx base [0x01, 0x74, 0x00, 0x78, 0xCD, 0xEE])).status.err = .frameError := by
  decide +kernel

theorem test_meter_parse :
    (run .meterParse (withRx base m1b)).buf.mtab = [(0x0C, 12345), (0x1A, 123456)] ∧
    (run .meterParse (withRx base [1, 0xAF, 0x20, 0x0C, 0, 1, 7, 0xDD, 0xF5])).status.partialResult
      = true := by decide +kernel

theorem test_build_reg : (run .buildReg base).txFrame = reg1 := by decide +kernel

theorem test_build_xfer :
    (run (.buildXfer .restricted)
      (base.withOpnd { value := 250, bcd := 0, txid := 42 })).txFrame = xf3 ∧
    (run (.buildXfer .cashable) (withVal base (10 ^ 10))).status.err = .encodingError := by
  decide +kernel

theorem test_build_balq : (run .buildBalq base).txFrame = balq := by decide +kernel

theorem test_bal_parse :
    (run .balParse (withRx base b1)).bal = { cash := 10000, rest := 0, nonr := 0 } ∧
    (run .balParse (withRx base (b1.take 26))).status.err = .responseTooShort := by decide +kernel

theorem test_xchg : (run .xchg (withTx base balq)).statusWord = 0x9010 ∧
    (run .xchg base).statusWord = 0xA010 := by decide +kernel

theorem test_aft_start : (run (.aftStart .cashable) (withVal base 10000)).statusWord = 0x1110 ∧
    (run (.aftStart .cashable) (withVal base (10 ^ 10))).statusWord = 0x30803 := by decide +kernel

theorem test_aft_cancel :
    (run .aftCancel (withSeq base .awaitRegistrationSettle .wait)).statusWord = 0x90809 ∧
    (run .aftCancel (withSeq base .registering .tx)).statusWord = 0x5110 := by decide +kernel

theorem test_aft_clear :
    (run .aftClear (base.withStatus { base.status with
      seq := .failed, failKind := .encodingError, err := .busy })).statusWord = 0 := by
  decide +kernel

theorem test_wire_registration :
    (run (.wireAftRegistration regFields) (run (.aftStart .cashable) base)).statusWord = 0x2110 := by
  decide +kernel

theorem test_wire_transfer :
    (run (.wireAftTransfer xferFields) (writing (withTx base xf3))).statusWord = 0xA010 := by
  decide +kernel

theorem test_wire_balance_query :
    (run (.wireBalanceQuery 1) (writing (withTx base balq))).statusWord = 0xA010 ∧
    run (.wireBalanceQuery 2) (writing (withTx base balq)) = writing (withTx base balq) := by
  decide +kernel

theorem test_wire_balance_response :
    (run (.wireBalanceResponse balFields) (reading base)).rxBytes = b1 ∧
    (run (.wireBalanceResponse balFields) (reading base)).statusWord = 0 := by decide +kernel

theorem test_wire_meter_read :
    (run (.wireMeterRead 1 [0x00, 0x0C])
      (writing (withTx base [1, 0xAF, 2, 0, 0x0C, 0x54, 0x64]))).statusWord = 0xA010 := by
  decide +kernel

theorem test_wire_meter_response :
    (run (.wireMeterResponse meterFields) (reading base)).rxBytes = m1b ∧
    run (.wireMeterResponse meterFields) base = base := by decide +kernel

/-- An illegal word is IllegalOp, before Busy (S14 and R81). -/
theorem test_illegal_word : (one (run (.aftStart .cashable) base) (.issue 0x100)).statusWord = 0x1117 ∧
    (one (run (.aftStart .cashable) base) (.issue 0x502)).statusWord = 0x1118 := by decide +kernel

theorem test_fetched_word : (match step (State.reset.withFetchWord 32 0x10) with
    | .next t => t.core.statusWord
    | _ => 0) = 0xA010 := by decide +kernel

theorem test_fetched_frame : (match step (State.reset.withFetchWord 8 0x74) with
    | .next t => t.core.statusWord
    | _ => 0) = 0xA010 := by decide +kernel

/-- The outcome is a next state that meets a condition. -/
def nextMeets (o : Host.Outcome State Fault Refusal) (p : State → Bool) : Bool :=
  match o with
  | .next t => p t
  | _ => false

theorem exists_next {o : Host.Outcome State Fault Refusal} {P : State → Prop} [DecidablePred P]
    (h : nextMeets o (fun t => decide (P t)) = true) : ∃ t, o = .next t ∧ P t := by
  cases o with
  | next t => exact ⟨t, rfl, by simpa [nextMeets] using h⟩
  | fault r => exact Bool.noConfusion h
  | refused r => exact Bool.noConfusion h

/-! Witnesses: for each statement with hypotheses, concrete states and operands that meet them, a case for
each clause, at the ends of its ranges. -/

theorem witness_IllegalWordsRaiseIllegalOpOnly :
    rsvField 0x00010010 ≠ 0 ∧
    (rsvField 0x23 = 0 ∧ argDomain (opField 0x23).toNat = none) ∧
    (rsvField 0x902 = 0 ∧ argDomain (opField 0x902).toNat = some (1, 8) ∧
      ¬ (1 ≤ (argField 0x902).toNat ∧ (argField 0x902).toNat ≤ 8)) ∧
    (rsvField 0x802 = 0 ∧ argDomain (opField 0x802).toNat = some (1, 8) ∧
      1 ≤ (argField 0x802).toNat ∧ (argField 0x802).toNat ≤ 8) ∧
    ((mk base [.issue 0x902]).events = [.issue 0x902] ∧
      decodeWord 0x902 = .error .argOutOfDomain) := by decide +kernel

theorem witness_WireFramesDecodeToWhatTheyEncode :
    (isHostOp (.wireAftTransfer xferFields) = false ∧ (Instr.wireAftTransfer xferFields).wf = true) ∧
    (isHostOp (.wireMeterResponse meterFields) = false ∧
      (Instr.wireMeterResponse meterFields).wf = true) := by decide +kernel

theorem witness_DecodedBitsEncodeBack :
    decode (.word 0x802) = .ok (.bcdEnc 8) ∧ decode (.sent balq) = .ok (.wireBalanceQuery 1) ∧
    decode (.received b1) = .ok (.wireBalanceResponse balFields) := by decide +kernel

theorem witness_StepRunsTheDecodedInstruction :
    ((mk base [.issue 0x21]).events = [.issue 0x21] ∧ decodeWord 0x21 = .ok .aftCancel) ∧
    ((writing (withTx base balq)).offersFrame (writing (withTx base balq)).txFrame = true ∧
      decodeSent (writing (withTx base balq)).txFrame = .ok (.wireBalanceQuery 1)) ∧
    (decodeReceived b1 = .ok (.wireBalanceResponse balFields)) := by decide +kernel

theorem witness_FrameEventsAreRunsOfByteEvents :
    (mk (reading base) [.rxFrame b1]).events = .rxFrame b1 :: [] ∧
    (mk (writing (withTx base balq)) [.txFrame]).events = .txFrame :: [] := by decide +kernel

theorem witness_OperationsAreBusyWhileActive :
    (isHostOp (.bcdEnc 1) = true ∧ acceptedWhileActive (.bcdEnc 1) = false ∧
      (Instr.bcdEnc 1).wf = true ∧ (withSeq base .verifyingBalance .wait).active = true) ∧
    (reading base).active = true ∧ (withSeq base .done .none).status.seq.isTerminal = true ∧
    (withSeq base .failed .none).active = false := by decide +kernel

theorem witness_CrcOperationResult : base.active = false := by decide

theorem witness_BcdEncodeResult :
    (base.active = false ∧ 1 ≤ (1 : Byte).toNat ∧ (1 : Byte).toNat ≤ 8 ∧
      (withVal base 99).opnd.value.toNat < 10 ^ (2 * (1 : Byte).toNat)) ∧
    ((8 : Byte).toNat ≤ 8 ∧ (withVal base (10 ^ 16 - 1)).opnd.value.toNat < 10 ^ (2 * (8 : Byte).toNat)) ∧
    (10 ^ (2 * (8 : Byte).toNat) ≤ (withVal base (10 ^ 16)).opnd.value.toNat) ∧
    ¬ (1 ≤ (0 : Byte).toNat ∧ (0 : Byte).toNat ≤ 8) ∧
    ¬ (1 ≤ (9 : Byte).toNat ∧ (9 : Byte).toNat ≤ 8) := by decide +kernel

theorem witness_BcdDecodeResult :
    (∀ j < 2 * (8 : Byte).toNat, nibble (withDigits base 0x9999999999999999).opnd.bcd j ≤ 9) ∧
    (∀ j < 2 * (1 : Byte).toNat, nibble (withDigits base 0xFA99).opnd.bcd j ≤ 9) ∧
    (∃ j < 2 * (1 : Byte).toNat, 9 < nibble (withDigits base 0xA0).opnd.bcd j) ∧
    (withDigits base 0xA0).active = false ∧
    ¬ (1 ≤ (0 : Byte).toNat ∧ (0 : Byte).toNat ≤ 8) := by decide +kernel

theorem witness_BcdRoundTrip :
    99 < 10 ^ (2 * 1) ∧ ([0x00, 0x99] : List Byte) ≠ [] ∧ allDigits [0x00, 0x99] = true := by decide

theorem witness_FrameBuildResult : MemoriesCanonical (withPay base [1, 2, 3]) ∧
    (withPay base [1, 2, 3]).active = false := by decide +kernel

theorem witness_FrameParseResult :
    ((withRx base balq).active = false ∧ 3 ≤ (withRx base balq).buf.rxlen.toNat ∧
      (withRx base balq).buf.rxlen.toNat =
        (Memory.read (withRx base balq).buf.rxbuf 2).toNat + 5) ∧
    (withRx base [1, 0x74]).buf.rxlen.toNat < 3 ∧
    (withRx base [1, 0x74, 0]).buf.rxlen.toNat ≠
      (Memory.read (withRx base [1, 0x74, 0]).buf.rxbuf 2).toNat + 5 := by decide +kernel

theorem witness_FrameRoundTripThroughTheBuffers :
    MemoriesCanonical (withPay base [1, 2, 3]) ∧ (withPay base [1, 2, 3]).buf.plen.toNat ≤ 255 ∧
    ∃ t, exec (.frameBuild 0xAF) (mk (withPay base [1, 2, 3]) []) = .next t ∧
      (withRx base t.core.txFrame).active = false ∧
      (withRx base t.core.txFrame).rxBytes = t.core.txFrame :=
  ⟨by decide +kernel, by decide +kernel, exists_next (by decide +kernel)⟩

theorem witness_MeterParseNeverRaises : (withRx base [1, 0xAF]).active = false ∧
    (withRx base [1, 0xAF]).buf.rxlen.toNat < 3 ∧
    ¬ (withRx base [1, 0xAF, 0]).buf.rxlen.toNat < 3 := by decide +kernel

theorem witness_CompleteMeterResponseFillsTheTable :
    (withRx base m1b).active = false ∧ meterFields.wf = true ∧
    (withRx base m1b).rxBytes = meterFields.bytes ∧
    (∀ e ∈ meterEntries meterFields.items, allDigits e.2 = true) ∧
    (meterEntries meterFields.items).length ≤ (withRx base m1b).cfg.mcap.toNat := by decide +kernel

/-- One entry in the region of an inconsistent frame (M10's), whatever its command byte. -/
theorem witness_meter_region_of_an_inconsistent_frame :
    IsMeterRegion (withRx base [1, 0x10, 0x20, 0x0C, 0, 1, 7]).rxBytes
      (([.entry 0x0C 0 [7]] : List MeterItem).flatMap MeterItem.bytes) ∧
    IsMeterRegion (withRx base [1, 0xAF, 0x20, 0x0C, 0, 1, 7, 0xDD, 0xF5]).rxBytes
      (([.entry 0x0C 0 [7]] : List MeterItem).flatMap MeterItem.bytes ++ [0xDD, 0xF5]) :=
  ⟨.inr ⟨1, 0x10, 0x20, by decide +kernel⟩, .inr ⟨1, 0xAF, 0x20, by decide +kernel⟩⟩

/-- The payload of a consistent frame, with another command byte than 0xAF. -/
theorem witness_meter_region_of_a_consistent_frame :
    IsMeterRegion (withRx base [1, 0x10, 5, 0x0C, 0, 1, 7, 0x0D, 0x1F, 0x8A]).rxBytes
      (([.entry 0x0C 0 [7]] : List MeterItem).flatMap MeterItem.bytes ++ [0x0D]) :=
  .inl ⟨1, 0x10, 0x1F, 0x8A, by decide +kernel⟩

/-- One complete entry, then M11's, M3's, M4's, M5's and M8's kinds of bad entry, and the cap of M2b. -/
theorem witness_MalformedMeterEntryEndsTheParse :
    ([.entry 0x0C 0 [7]] : List MeterItem).all MeterItem.wf = true ∧
    (∀ e ∈ meterEntries [.entry 0x0C 0 [7]], allDigits e.2 = true) ∧
    (meterEntries [.entry 0x0C 0 [7]]).length ≤ base.cfg.mcap.toNat ∧
    byteAt [0x0D] 0 ≠ 0 ∧ ([0x0D] : List Byte).length < 3 ∧
    (byteAt [0x0D, 0, 0] 2).toNat = 0 ∧ 9 < (byteAt [0x0D, 0, 10] 2).toNat ∧
    ([0x0D, 0, 4, 0, 0] : List Byte).length < 3 + (byteAt [0x0D, 0, 4, 0, 0] 2).toNat ∧
    allDigits (slice [0x0D, 0, 2, 0x1A, 0] 3 5) = false ∧
    (meterEntries [.entry 0x0C 0 [7]]).length =
      (base.withCfg { base.cfg with mcap := 1 }).cfg.mcap.toNat := by decide +kernel

/-- For RegistrationFrameFollowsItsLayout, TransferFrameFollowsItsLayout (both clauses, at the bound) and
BalanceQueryFrameFollowsItsLayout. -/
theorem witness_builders :
    MemoriesCanonical base ∧ base.active = false ∧
    (withVal base (10 ^ 10 - 1)).opnd.value.toNat < 10 ^ 10 ∧
    10 ^ 10 ≤ (withVal base (10 ^ 10)).opnd.value.toNat := by decide +kernel

theorem witness_TransactionIdFieldSpellsTheId : xferFields.wf = true ∧
    1 < (asciiOfId xferFields.transactionId).length := by decide +kernel

theorem witness_BalanceParseResult :
    ((withRx base (b1.take 26)).active = false ∧
      (withRx base (b1.take 26)).buf.rxlen.toNat < 27) ∧
    Memory.read (withRx base (2 :: b1.drop 1)).buf.rxbuf 0 ≠ base.cfg.addr ∧
    Memory.read (withRx base (1 :: 0x73 :: b1.drop 2)).buf.rxbuf 1 ≠ 0x74 ∧
    (27 ≤ (withRx base (b1.take 27)).buf.rxlen.toNat ∧
      Memory.read (withRx base (b1.take 27)).buf.rxbuf 0 = base.cfg.addr ∧
      Memory.read (withRx base (b1.take 27)).buf.rxbuf 1 = 0x74 ∧
      allDigits (Memory.readRange (withRx base (b1.take 27)).buf.rxbuf 12 15) = true) ∧
    allDigits (Memory.readRange (withRx base (b1.set 14 0x0A)).buf.rxbuf 12 15) = false := by
  decide +kernel

theorem witness_BalanceResponseLayoutIsRead :
    (withRx base b1).active = false ∧ balFields.wf = true ∧
    (withRx base b1).rxBytes = balFields.bytes ∧ balFields.address = (withRx base b1).cfg.addr ∧
    bcdDecode balFields.cashable = some 10000 ∧ bcdDecode balFields.restricted = some 0 ∧
    bcdDecode balFields.nonRestricted = some 0 := by decide +kernel

theorem witness_XchgStartsAnExchange : (withTx base balq).active = false ∧
    (withTx base balq).buf.txlen ≠ 0 ∧ base.buf.txlen = 0 := by decide +kernel

theorem witness_AftStartResult :
    base.active = false ∧ base.status.seq = .idle ∧ MemoriesCanonical base ∧
    10 ^ 10 ≤ (withVal base (10 ^ 10)).opnd.value.toNat ∧
    (base.withTxidLast 0xFFFFFFFF).txidLast = BitVec.allOnes 32 ∧
    (withVal base (10 ^ 10 - 1)).opnd.value.toNat < 10 ^ 10 ∧
    (base.withTxidLast 0xFFFFFFFE).txidLast ≠ BitVec.allOnes 32 := by decide +kernel

theorem witness_AftCancelResult :
    ((withSeq base .registering .tx).status.seq.isActive = true ∧
      (withSeq base .registering .tx).status.phase = .tx) ∧
    (withSeq base .verifyingBalance .rx).status.phase ≠ .tx ∧
    base.status.seq.isActive = false := by decide +kernel

theorem witness_AftClearResult :
    ((withSeq base .done .none).active = false ∧
      (withSeq base .done .none).status.seq.isTerminal = true) ∧
    (base.active = false ∧ base.status.seq.isTerminal = false) := by decide +kernel

theorem witness_SentFramesAreTakenInOrder :
    (isSentFrame (.wireBalanceQuery 1) = true ∧ (Instr.wireBalanceQuery 1).wf = true ∧
      (writing (withTx base balq)).offersFrame (wireBytes (.wireBalanceQuery 1)) = true) ∧
    ((withSeq (withTx base reg1) .registering .tx).offersFrame
        (wireBytes (.wireAftRegistration regFields)) = true ∧
      (withSeq base .registering .tx).exch.owner = .sequencer) ∧
    ((run .aftCancel (withSeq (withTx base reg1) .registering .tx)).offersFrame
        (wireBytes (.wireAftRegistration regFields)) = true ∧
      (run .aftCancel (withSeq (withTx base reg1) .registering .tx)).exch.owner = .sequencer ∧
      (run .aftCancel (withSeq (withTx base reg1) .registering .tx)).status.cancelPending = true) ∧
    base.offersFrame (wireBytes (.wireBalanceQuery 1)) = false := by decide +kernel

theorem witness_ReceivedFramesAreDelivered :
    isReceivedFrame (.wireMeterResponse meterFields) = true ∧
    (Instr.wireMeterResponse meterFields).wf = true ∧ MemoriesCanonical (reading base) ∧
    (reading base).exch.rxOpen = true ∧ (reading base).buf.rxlen = 0 ∧
    (reading base).exch.owner = .standalone ∧
    (wireBytes (.wireMeterResponse meterFields)).length =
      (byteAt (wireBytes (.wireMeterResponse meterFields)) 2).toNat + 5 ∧
    (wireBytes (.wireBalanceResponse balFields)).length =
      (byteAt (wireBytes (.wireBalanceResponse balFields)) 2).toNat + 5 ∧
    base.exch.rxOpen = false := by decide +kernel

theorem witness_SilentReadAttemptTimesOut :
    (reading base).exch.rxOpen = true ∧ (reading base).exch.owner = .standalone ∧
    (reading base).exch.timer = 0 ∧ (reading base).buf.rxlen = 0 ∧
    (reading base).cfg.tRead.toNat + 1 < 2 ^ 32 ∧
    ((reading base).withCfg { base.cfg with tRead := 0xFFFFFFFE }).cfg.tRead.toNat + 1 < 2 ^ 32 := by
  decide +kernel

theorem witness_SettleWaitsLastOneTickMore :
    let reg := withSeq base .awaitRegistrationSettle .wait
    let xfer := withSeq base .awaitTransferSettle .wait
    let poll := withSeq (withTx base balq) .verifyingBalance .wait
    (reg.status.phase = .wait ∧ reg.exch.rxOpen = false ∧ reg.exch.timer = 0 ∧
      reg.status.seq = .awaitRegistrationSettle ∧ reg.cfg.tRegSettle.toNat + 1 < 2 ^ 32 ∧
      MemoriesCanonical reg ∧ reg.req.amount.toNat < 10 ^ 10) ∧
    (xfer.status.phase = .wait ∧ xfer.exch.rxOpen = false ∧ xfer.exch.timer = 0 ∧
      xfer.status.seq = .awaitTransferSettle ∧ xfer.cfg.tXferSettle.toNat + 1 < 2 ^ 32) ∧
    (poll.status.phase = .wait ∧ poll.exch.rxOpen = false ∧ poll.exch.timer = 0 ∧
      poll.status.seq = .verifyingBalance ∧ poll.buf.txlen ≠ 0 ∧
      poll.cfg.tPoll.toNat + 1 < 2 ^ 32) := by decide +kernel

/-- The longest setting, in each of the three waits, and the longest that still ends. -/
theorem witness_waits_at_the_longest_settings :
    let g := { base.cfg with
      tRegSettle := 0xFFFFFFFF, tXferSettle := 0xFFFFFFFF, tPoll := 0xFFFFFFFF }
    g.tRegSettle = BitVec.allOnes 32 ∧ g.tXferSettle = BitVec.allOnes 32 ∧
    g.tPoll = BitVec.allOnes 32 ∧ (0xFFFFFFFE : Word32).toNat + 1 < 2 ^ 32 := by decide +kernel

/-- A registration attempt on its 1001st tick. -/
def lastTick (q : SeqState) : CoreState :=
  let c := withSeq (withTx base reg1) q .rx
  c.withExch { c.exch with timer := 1000 }

/-- A read attempt of a sequence that has received these bytes, and its next event. -/
def attempt (q : SeqState) (bs : List Byte) : CoreState := withRx (lastTick q) bs

/-- The tick ends it with what was received, and the byte that fills the buffer ends it too. -/
theorem witness_TimedOutStepResendsTheSameFrame :
    EndsReadAttempt (lastTick .registering) .tick [] ∧ ¬ IsFrame [] ∧
    EndsReadAttempt (attempt .transferring (List.replicate 259 0)) (.rxByte 7)
      (List.replicate 259 0 ++ [7]) ∧ ¬ IsFrame (List.replicate 259 0 ++ [7]) ∧
    (lastTick .registering).status.seq = .registering ∧
    (attempt .transferring (List.replicate 259 0)).status.seq = .transferring ∧
    (lastTick .registering).exch.rxOpen = true ∧ (lastTick .registering).exch.owner = .sequencer ∧
    (lastTick .registering).seqInfo.retryUsed = false ∧ (lastTick .registering).buf.txlen ≠ 0 :=
  ⟨.inr (by decide +kernel), by decide +kernel, .inl ⟨7, by decide +kernel⟩, by decide +kernel⟩

/-- The same with the retry used: the step gives up. -/
theorem witness_timed_out_step_with_its_retry_used :
    let c := (lastTick .transferring).withSeqInfo { SeqInfo.clear with retryUsed := true }
    EndsReadAttempt c .tick [] ∧ c.status.seq = .transferring ∧ c.exch.rxOpen = true ∧
    c.exch.owner = .sequencer ∧ c.seqInfo.retryUsed = true ∧
    (one c .tick).seqInfo.word = 0x05 ∧ (one c .tick).status.seq = .awaitTransferSettle :=
  ⟨.inr (by decide +kernel), by decide +kernel⟩

/-- For ReceivedFramesAreDelivered: a frame with another command byte is a reply too (R94, R254). -/
theorem witness_replies_of_a_sequence :
    let reg := attempt .registering [1, 0x73, 0, 0x70]
    let xfer := attempt .transferring [1, 0x10, 0, 0x70]
    (EndsReadAttempt reg (.rxByte 0x80) [1, 0x73, 0, 0x70, 0x80] ∧
      EndsReadAttempt xfer (.rxByte 0x80) [1, 0x10, 0, 0x70, 0x80]) ∧
    IsFrame [1, 0x73, 0, 0x70, 0x80] ∧ IsFrame [1, 0x10, 0, 0x70, 0x80] ∧
    reg.exch.rxOpen = true ∧ reg.exch.owner = .sequencer ∧ reg.status.seq = .registering ∧
    xfer.exch.rxOpen = true ∧ xfer.exch.owner = .sequencer ∧ xfer.status.seq = .transferring ∧
    (one reg (.rxByte 0x80)).seqInfo.word = 0x08 ∧ (one xfer (.rxByte 0x80)).seqInfo.word = 0x10 :=
  ⟨⟨.inl ⟨0x80, by decide +kernel⟩, .inl ⟨0x80, by decide +kernel⟩⟩, by decide +kernel⟩

/-- A poll of a request of this amount, from an empty snapshot, that has received these bytes. -/
def polling (amount : Word64) (bs : List Byte) : CoreState :=
  ((attempt .verifyingBalance bs).withReq { amount := amount, type := .cashable, txid := 1 }).withPreValid
    true

/-- A silent poll, one that shows 10000 cents with its last byte, and one that shows them on the tick,
because its length byte is wrong. -/
theorem witness_SilentPollIsCounted :
    EndsReadAttempt (polling 10000 []) .tick [] ∧
    EndsReadAttempt (polling 10000 (b1.take 28)) (.rxByte 0xF0) b1 ∧
    EndsReadAttempt (polling 10000 (b1.take 27)) .tick (b1.take 27) ∧
    PollConfirms (polling 10000 (b1.take 28)) b1 ∧
    PollConfirms (polling 10000 (b1.take 27)) (b1.take 27) ∧
    ((polling 10000 []).status.seq = .verifyingBalance ∧ (polling 10000 []).exch.rxOpen = true ∧
      (polling 10000 []).exch.owner = .sequencer ∧ shownBalance 1 [] = none ∧
      (polling 10000 []).cfg.polls.toNat ≤ (4 + 1 : Byte).toNat ∧
      (3 + 1 : Byte).toNat < (polling 10000 []).cfg.polls.toNat) :=
  ⟨.inr (by decide +kernel), .inl ⟨0xF0, by decide +kernel⟩, .inr (by decide +kernel),
    ⟨{ cash := 10000, rest := 0, nonr := 0 }, by decide +kernel⟩,
    ⟨{ cash := 10000, rest := 0, nonr := 0 }, by decide +kernel⟩, by decide +kernel⟩

/-- R258, R259: only the exact increase ends a poll in Done; else the budget decides. -/
theorem test_poll_ends :
    (one (polling 10000 (b1.take 28)) (.rxByte 0xF0)).status.seq = .done ∧
    (one (polling 9999 (b1.take 28)) (.rxByte 0xF0)).status.seq = .verifyingBalance ∧
    (one ((polling 9999 (b1.take 28)).withSeqInfo { SeqInfo.clear with pollsDone := 4 })
      (.rxByte 0xF0)).status.seq = .doneUnconfirmed := by decide +kernel

theorem witness_ChannelErrorEndsTheExchange :
    ((writing (withTx base balq)).status.phase = .tx ∧
      (writing (withTx base balq)).exch.owner = .standalone) ∧
    ((lastTick .registering).exch.rxOpen = true ∧ (lastTick .registering).exch.owner = .sequencer) ∧
    (base.status.phase ≠ .tx ∧ base.exch.rxOpen = false) := by decide +kernel

theorem witness_ElapsedCountsTheCurrentState :
    (∃ t, step (mk (lastTick .registering) [.tick]) = .next t ∧ t.core.elapsed.reg = 1) ∧
    base.active = false ∧ base.status.seq = .idle ∧
    ∃ t, exec (.aftStart .cashable) (mk base []) = .next t ∧ t.core.status.seq = .registering :=
  ⟨exists_next (by decide +kernel), by decide, by decide, exists_next (by decide +kernel)⟩

/-- For RegisterWritesAreLockedWhileActive, RegisterMapReadsAndWrites, HostMemoryAccesses and
ReadsHaveNoSideEffect. -/
theorem witness_RegisterAndMemoryAccesses :
    (reading base).active = true ∧ base.active = false ∧
    ((0x12, 32) : Nat × Nat) ∈ [(0x01, 8), (0x02, 32), (0x03, 64), (0x05, 16), (0x06, 32),
      (0x07, 32), (0x08, 32), (0x09, 32), (0x0C, 8), (0x10, 64), (0x11, 64), (0x12, 32)] ∧
    (∀ n ∈ ([0x0F, 0x13, 0x17, 0x1D, 0x1F, 0x2D, 0x2F, 0x35, 0x37, 0x39, 0x3F] : List (BitVec 6)),
      n.toNat ∉ [0x00, 0x01, 0x02, 0x03, 0x04, 0x05, 0x06, 0x07, 0x08, 0x09, 0x0A, 0x0B, 0x0C, 0x0D,
        0x0E, 0x10, 0x11, 0x12, 0x18, 0x19, 0x1A, 0x1B, 0x1C, 0x20, 0x21, 0x22, 0x23, 0x24, 0x25,
        0x26, 0x27, 0x28, 0x29, 0x2A, 0x2B, 0x2C, 0x30, 0x31, 0x32, 0x33, 0x34, 0x38]) ∧
    (0x0D : BitVec 6).toNat ∉ [0x01, 0x02, 0x03, 0x04, 0x05, 0x06, 0x07, 0x08, 0x09, 0x0A, 0x0B,
      0x0C, 0x0E, 0x10, 0x11, 0x12] ∧
    MemoriesCanonical base ∧ MeterTable.wf base.buf.mtab = true ∧
    (mk base [.write 1 2]).events = .write 1 2 :: [] ∧
    (mk base [.writeB .rxbuf 259 2]).events = .writeB .rxbuf 259 2 :: [] ∧
    (mk base [.read 0x38]).events = .read 0x38 :: [] ∧
    (mk base [.readB .mtab 255]).events = .readB .mtab 255 :: [] := by decide +kernel

theorem witness_ResetValues : (mk (lastTick .registering) [.reset]).events = .reset :: [] := by
  decide +kernel

/-- The invariants, each decided. -/
def invariants (c : CoreState) : List Bool :=
  [MemoriesCanonical c, MetersCounted c, RegistersLegal c, ControlCoherent c, FailKindTruthful c,
    IdRoom c]

/-- A write phase inside a sequence meets every invariant, and its next step answers: for
StepsKeepMemoriesCanonical, StepsKeepMetersCounted, StepsKeepControlCoherent, StepsKeepRegistersLegal,
SequencerTakesOnlyTheListedEdges and ActiveCoreIsLocked. -/
theorem witness_invariants :
    let s := mk (run (.aftStart .cashable) (withVal base 250)) [.txFrame]
    (invariants s.core).all id = true ∧ nextIsReset s = false ∧ s.core.active = true ∧
    s.core.status.phase = .tx ∧ s.core.exch.rxOpen = false ∧
    nextMeets (step s) (fun t => t.core.status.phase == .rx) = true := by decide +kernel

/-- A cancelled sequence goes to Failed and stays there. -/
theorem witness_FailKindKeepsTheCause :
    let c := withSeq base .awaitTransferSettle .wait
    (invariants c).all id = true ∧ c.status.seq ≠ .failed ∧
    (invariants (run .aftCancel c)).all id = true ∧ (run .aftCancel c).status.seq = .failed ∧
    (run .nop (run .aftCancel c)).status.seq = .failed := by decide +kernel

theorem witness_SequencesFailOnlyForACause :
    let s := mk (lastTick .registering) [.tick]
    s.core.status.seq.isActive = true ∧ s.core.status.cancelPending = false ∧
    s.events.head? ≠ some .chanErr ∧ (mk base [.issue 0]).events.head? = some (.issue 0) ∧
    decodeWord 0 ≠ .ok .aftCancel ∧
    nextMeets (step s) (fun t => t.core.status.seq == .registering) = true := by decide +kernel

/-- The last tick of the registration settle takes the edge into Transferring. -/
theorem witness_TransactionIdsAdvanceByOne :
    let c := withSeq base .awaitRegistrationSettle .wait
    let s := mk (c.withExch { c.exch with timer := 1000 }) [.tick]
    IdRoom s.core ∧ nextIsReset s = false ∧ s.core.status.seq = .awaitRegistrationSettle ∧
    ∃ t, step s = .next t ∧ t.core.status.seq = .transferring ∧ t.core.txidLast = 1 :=
  ⟨by decide +kernel, by decide +kernel, by decide +kernel, exists_next (by decide +kernel)⟩

theorem witness_WrittenFramesKeepTheFrameInvariants :
    MemoriesCanonical base ∧ nextIsReset (mk base [.issue 0x07]) = false ∧
    ∃ t, step (mk base [.issue 0x07]) = .next t ∧ t.core.buf.txlen ≠ base.buf.txlen :=
  ⟨by decide +kernel, by decide +kernel, exists_next (by decide +kernel)⟩

theorem witness_BalancesChangeOnlyByASuccessfulParse :
    nextIsReset (mk (withRx base b1) [.issue 0x0A]) = false ∧
    ∃ t, step (mk (withRx base b1) [.issue 0x0A]) = .next t ∧ t.core.bal ≠ base.bal :=
  ⟨by decide +kernel, exists_next (by decide +kernel)⟩

/-- 10000 cents cashable, from 0, with the response B1. -/
theorem witness_AcknowledgedTransferEndsInDone :
    let c := (withVal base 10000).withBalStat { lock := 0, aft := 0, valid := true }
    c.active = false ∧ c.status.seq = .idle ∧ MemoriesCanonical c ∧
    c.opnd.value.toNat < 10 ^ 10 ∧ c.txidLast ≠ BitVec.allOnes 32 ∧ c.balStat.valid = true ∧
    c.cfg.tRegSettle.toNat + 1 < 2 ^ 32 ∧ c.cfg.tXferSettle.toNat + 1 < 2 ^ 32 ∧
    parseOk [1, 0x73, 0, 0x70, 0x80] = true ∧ parseOk b1 = true ∧
    balancePrefixOk .default c.cfg.addr b1 = true ∧
    balanceFields .default b1 = some { cash := 10000, rest := 0, nonr := 0 } ∧
    (10000 : Word64).toNat = (c.bal.field .cashable).toNat + c.opnd.value.toNat := by decide +kernel

end Sys2Proof.Tests
end

section
/-! SUPPORT. What a step does to the CORE: a RESET, or one reaction. Every statement about all steps is proved
for the reactions, one by one, through `step_reaction` or `step_keeps`. -/

namespace Sys2Proof.Machine

/-- One byte on the wire, as the CORE meets it: it is taken while on offer, or it is delivered (R221,
R222). -/
inductive WireStep (p : Params) (c : CoreState) : CoreState → Prop
  | accept (h : c.offering = true) : WireStep p c c.txAccept
  | receive (b : Byte) : WireStep p c (c.rxByte p b)

/-- The rules that an idle CORE runs for the host operations that Busy stops (R220). -/
inductive HostRule (p : Params) : (CoreState → CoreState) → Prop
  | crc16 (src : CrcSource) : HostRule p (crc16Rule src)
  | bcdEnc (n : Nat) : HostRule p (bcdEncRule n)
  | bcdDec (n : Nat) : HostRule p (bcdDecRule p n)
  | frameBuild (command : Byte) : HostRule p (frameBuildRule p command)
  | frameParse : HostRule p frameParseRule
  | meterParse : HostRule p (meterParseRule p)
  | buildReg : HostRule p (buildRegRule p)
  | buildXfer (t : TransferType) : HostRule p (buildXferRule p t)
  | buildBalq : HostRule p (buildBalqRule p)
  | balParse : HostRule p (balParseRule p)
  | xchg : HostRule p xchgRule
  | aftStart (t : TransferType) : HostRule p (aftStartRule p t)
  | aftClear : HostRule p aftClearRule

/-- What one event other than RESET does to the CORE (R331). NOP is `raise .ok`, which is `finish`. -/
inductive Reaction (p : Params) (c : CoreState) : CoreState → Prop
  | wire {d : CoreState} (h : Relation.ReflTransGen (WireStep p) c d) : Reaction p c d
  | raise (e : ErrCode) : Reaction p c (c.raise e)
  | operation {rule : CoreState → CoreState} (hrule : HostRule p rule) (hidle : c.active = false) :
      Reaction p c (rule c)
  | cancel : Reaction p c (aftCancelRule c)
  | writeReg (n : BitVec 6) (v : Word64) : Reaction p c (c.writeReg n v)
  | writeMem (m : MemSpace) (i : Nat) (b : Byte) : Reaction p c (c.writeMem p m i b)
  | chanErr : Reaction p c (c.chanErr p)
  | tick : Reaction p c (c.tick p)

/-- An event that does not reach the CORE. -/
theorem Reaction.unchanged (p : Params) (c : CoreState) : Reaction p c c := .wire .refl

theorem acceptBytes_wireSteps (n : Nat) (s : State) :
    Relation.ReflTransGen (WireStep s.params) s.core (State.acceptBytes n s).core := by
  induction n generalizing s with
  | zero => exact .refl
  | succ n ih =>
    have hrest := ih s.acceptByte
    rw [(acceptByte_keeps s).1] at hrest
    by_cases h : s.core.offering = true
    · have hcore : s.acceptByte.core = s.core.txAccept := by simp [State.acceptByte, h]
      exact .head (hcore ▸ .accept h) hrest
    · have hsame : s.acceptByte = s := by simp [State.acceptByte, h]
      rw [State.acceptBytes, hsame]
      exact ih s

theorem deliverBytes_wireSteps (s : State) (bs : List Byte) :
    Relation.ReflTransGen (WireStep s.params) s.core (s.deliverBytes bs).core := by
  induction bs generalizing s with
  | nil => exact .refl
  | cons b bs ih => exact .head (.receive b) (ih (s.deliverByte b))

theorem takeFrame_reaction (s : State) (bs : List Byte) :
    Reaction s.params s.core (s.takeFrame bs).core := by
  unfold State.takeFrame
  split
  · exact .wire (acceptBytes_wireSteps _ s)
  · exact .unchanged ..

theorem hostOp_reaction {s t : State} {rule : CoreState → CoreState} (hrule : HostRule s.params rule)
    (h : hostOp s rule = .next t) : Reaction s.params s.core t.core := by
  cases ha : s.core.active with
  | true => cases (hostOp_busy ha rule).symm.trans h; exact .raise .busy
  | false => cases (hostOp_idle ha rule).symm.trans h; exact .operation hrule ha

/-- Every instruction is one reaction of the CORE. -/
theorem exec_reaction {i : Instr} {s t : State} (h : exec i s = .next t) :
    Reaction s.params s.core t.core := by
  cases i with
  | nop => cases h; exact .raise .ok
  | crc16 src => exact hostOp_reaction (.crc16 src) h
  | bcdEnc n =>
    have h : execBcdEnc n s = .next t := h
    unfold execBcdEnc at h
    split at h
    · exact hostOp_reaction (.bcdEnc _) h
    · cases h; exact .raise .illegalOp
  | bcdDec n =>
    have h : execBcdDec n s = .next t := h
    unfold execBcdDec at h
    split at h
    · exact hostOp_reaction (.bcdDec _) h
    · cases h; exact .raise .illegalOp
  | frameBuild command => exact hostOp_reaction (.frameBuild command) h
  | frameParse => exact hostOp_reaction .frameParse h
  | meterParse => exact hostOp_reaction .meterParse h
  | buildReg => exact hostOp_reaction .buildReg h
  | buildXfer ty => exact hostOp_reaction (.buildXfer ty) h
  | buildBalq => exact hostOp_reaction .buildBalq h
  | balParse => exact hostOp_reaction .balParse h
  | xchg => exact hostOp_reaction .xchg h
  | aftStart ty => exact hostOp_reaction (.aftStart ty) h
  | aftCancel => cases h; exact .cancel
  | aftClear => exact hostOp_reaction .aftClear h
  | wireAftRegistration f => cases h; exact takeFrame_reaction s _
  | wireAftTransfer f => cases h; exact takeFrame_reaction s _
  | wireBalanceQuery a => cases h; exact takeFrame_reaction s _
  | wireMeterRead a payload => cases h; exact takeFrame_reaction s _
  | wireBalanceResponse r => cases h; exact .wire (deliverBytes_wireSteps s _)
  | wireMeterResponse r => cases h; exact .wire (deliverBytes_wireSteps s _)

/-- The channel taking the frame on offer presents a wire row, or takes what is left byte by byte. -/
theorem fetchSent_cases (s : State) :
    (∃ i, fetchSent s = .instr i s) ∨
      fetchSent s = .reaction (State.acceptBytes s.core.bytesLeft s) := by
  unfold fetchSent
  split
  · cases decodeSent s.core.txFrame with
    | ok i => exact .inl ⟨i, rfl⟩
    | error e => exact .inr rfl
  · exact .inr rfl

/-- A step is a RESET or one reaction of the CORE. Every statement about all steps starts from here. -/
theorem step_reaction {s t : State} (h : step s = .next t) :
    (nextIsReset s = true ∧ t.core = .reset) ∨ Reaction s.params s.core t.core := by
  cases hev : s.events with
  | nil => cases (step_idle hev).symm.trans h; exact .inr (.unchanged ..)
  | cons e rest =>
    cases e with
    | issue w =>
      rw [step_issue hev] at h
      cases hd : decodeWord w with
      | ok i => simp only [hd] at h; exact .inr (exec_reaction (s := s.withEvents rest) h)
      | error e => rw [hd] at h; cases h; exact .inr (.raise .illegalOp)
    | write n v => cases (step_write hev).symm.trans h; exact .inr (.writeReg n v)
    | read n => cases (step_read hev).symm.trans h; exact .inr (.unchanged ..)
    | writeB m i b => cases (step_writeB hev).symm.trans h; exact .inr (.writeMem m i b)
    | readB m i => cases (step_readB hev).symm.trans h; exact .inr (.unchanged ..)
    | txAccept =>
      cases (step_txAccept hev).symm.trans h
      exact .inr (.wire (acceptBytes_wireSteps 1 (s.withEvents rest)))
    | rxByte b => cases (step_rxByte hev).symm.trans h; exact .inr (.wire (.single (.receive b)))
    | chanErr => cases (step_chanErr hev).symm.trans h; exact .inr .chanErr
    | tick => cases (step_tick hev).symm.trans h; exact .inr .tick
    | reset =>
      cases (step_reset hev).symm.trans h
      exact .inl ⟨by simp [nextIsReset, hev], rfl⟩
    | txFrame =>
      rw [step_txFrame hev] at h
      rcases fetchSent_cases (s.withEvents rest) with ⟨i, hf⟩ | hf
      · simp only [hf] at h; exact .inr (exec_reaction (s := s.withEvents rest) h)
      · rw [hf] at h; cases h
        exact .inr (.wire (acceptBytes_wireSteps _ (s.withEvents rest)))
    | rxFrame bs =>
      rw [step_rxFrame hev] at h
      cases hd : decodeReceived bs with
      | ok i => simp only [hd] at h; exact .inr (exec_reaction (s := s.withEvents rest) h)
      | error e =>
        rw [hd] at h; cases h
        exact .inr (.wire (deliverBytes_wireSteps (s.withEvents rest) bs))

/-- An invariant that holds after RESET and that every reaction keeps is kept by every step. -/
theorem step_keeps {I : CoreState → Prop} (hreset : I .reset)
    (hreact : ∀ (p : Params) (c d : CoreState), I c → Reaction p c d → I d) {s t : State}
    (hs : I s.core) (h : step s = .next t) : I t.core := by
  rcases step_reaction h with ⟨-, ht⟩ | hr
  · exact ht ▸ hreset
  · exact hreact _ _ _ hs hr

/-- What every byte keeps, every run of bytes keeps. -/
theorem WireStep.run_keeps {I : CoreState → Prop} {p : Params}
    (hbyte : ∀ c d : CoreState, I c → WireStep p c d → I d) {c d : CoreState} (hc : I c)
    (h : Relation.ReflTransGen (WireStep p) c d) : I d := by
  induction h with
  | refl => exact hc
  | tail _ hlast ih => exact hbyte _ _ ih hlast

end Sys2Proof.Machine
end

section
/-! SUPPORT. Host writes and the register map of R22: which register a number names, what a write stores, and
what every register reads afterwards. -/

namespace Sys2Proof.Machine

/-! Host writes. -/

/-- A register write changes configuration, operands, PLEN and RXLEN only (R22). -/
theorem CoreState.writeReg_eq (c : CoreState) (n : BitVec 6) (v : Word64) :
    ∃ (cfg : ConfigRegs) (opnd : OperandRegs) (plen : Byte) (rxlen : BitVec 9), c.writeReg n v =
      ((c.withCfg cfg).withOpnd opnd).withBuf { c.buf with plen := plen, rxlen := rxlen } := by
  refine ⟨(c.writeReg n v).cfg, (c.writeReg n v).opnd, (c.writeReg n v).buf.plen,
    (c.writeReg n v).buf.rxlen, ?_⟩
  unfold CoreState.writeReg
  split
  · rfl
  · split
    · rename_i r _
      cases r <;> rfl
    · rfl

/-- A memory write changes bytes of PBUF, RXBUF and KEYBUF only (R41). -/
theorem CoreState.writeMem_eq (p : Params) (c : CoreState) (m : MemSpace) (i : Nat) (b : Byte) :
    ∃ (pbuf rxbuf keybuf : Memory), c.writeMem p m i b =
      c.withBuf { c.buf with pbuf := pbuf, rxbuf := rxbuf, keybuf := keybuf } := by
  unfold CoreState.writeMem
  split
  · exact ⟨_, _, _, rfl⟩
  · cases m <;> exact ⟨_, _, _, rfl⟩

theorem CoreState.writeReg_active {c : CoreState} (h : c.active = true) (n : BitVec 6) (v : Word64) :
    c.writeReg n v = c := by simp [CoreState.writeReg, h]

theorem CoreState.writeMem_active {c : CoreState} (h : c.active = true) (p : Params) (m : MemSpace)
    (i : Nat) (b : Byte) : c.writeMem p m i b = c := by simp [CoreState.writeMem, h]

/-! The register map (R22, R25). -/

/-- The number of a register in R22. -/
def Reg.number : Reg → BitVec 6
  | .status => 0x00
  | .cfgAddr => 0x01
  | .cfgAsset => 0x02
  | .cfgPosid => 0x03
  | .cfgPoslen => 0x04
  | .cfgPoolid => 0x05
  | .cfgTRead => 0x06
  | .cfgTRegsettle => 0x07
  | .cfgTXfersettle => 0x08
  | .cfgTPoll => 0x09
  | .cfgPolls => 0x0A
  | .cfgMcap => 0x0B
  | .plen => 0x0C
  | .txlen => 0x0D
  | .rxlen => 0x0E
  | .opndValue => 0x10
  | .opndBcd => 0x11
  | .opndTxid => 0x12
  | .resCrc => 0x18
  | .resBcd => 0x19
  | .resValue => 0x1A
  | .resFrame => 0x1B
  | .mcount => 0x1C
  | .balCash => 0x20
  | .balRest => 0x21
  | .balNonr => 0x22
  | .balStat => 0x23
  | .preCash => 0x24
  | .preRest => 0x25
  | .preNonr => 0x26
  | .preValid => 0x27
  | .reqAmount => 0x28
  | .reqType => 0x29
  | .reqTxid => 0x2A
  | .txidLast => 0x2B
  | .seqInfo => 0x2C
  | .elapsedReg => 0x30
  | .elapsedRegsettle => 0x31
  | .elapsedXfer => 0x32
  | .elapsedXfersettle => 0x33
  | .elapsedVerify => 0x34
  | .timer => 0x38

theorem Reg.number_of_ofNumber {n : BitVec 6} {r : Reg} (h : Reg.ofNumber n = some r) :
    r.number = n := by
  have hall : ∀ n : BitVec 6, ∀ r ∈ Reg.ofNumber n, r.number = n := by decide
  exact hall n r h

/-- The registers that a host write may change: RW and WARL (R22). -/
def Reg.writable : Reg → Bool
  | .cfgAddr | .cfgAsset | .cfgPosid | .cfgPoslen | .cfgPoolid | .cfgTRead | .cfgTRegsettle
  | .cfgTXfersettle | .cfgTPoll | .cfgPolls | .cfgMcap | .plen | .rxlen | .opndValue | .opndBcd
  | .opndTxid => true
  | _ => false

theorem Reg.store_of_not_writable {r : Reg} (h : r.writable = false) (c : CoreState) (v : Word64) :
    r.store c v = c := by
  cases r <;> simp [Reg.writable, Reg.store] at h ⊢

/-- Every register is a field of its own: storing in one changes what no other reads. -/
theorem Reg.value_store (r r' : Reg) (c : CoreState) (v : Word64) :
    r'.value (r.store c v) = if r' = r then r.value (r.store c v) else r'.value c := by
  cases hw : r.writable with
  | false =>
    rw [Reg.store_of_not_writable hw]
    split
    · rename_i h; rw [h]
    · rfl
  | true => cases r <;> cases hw <;> cases r' <;> rfl

section
variable {c : CoreState} {n : BitVec 6} {r : Reg}

theorem CoreState.readReg_of_number (h : Reg.ofNumber n = some r) : c.readReg n = r.value c := by
  simp [CoreState.readReg, h]

theorem CoreState.readReg_of_unassigned (h : Reg.ofNumber n = none) : c.readReg n = 0 := by
  simp [CoreState.readReg, h]

theorem CoreState.writeReg_of_number (hidle : c.active = false) (h : Reg.ofNumber n = some r)
    (v : Word64) : c.writeReg n v = r.store c v := by
  simp [CoreState.writeReg, hidle, h]

/-- A write of a number without a writable register changes nothing (R22). -/
theorem CoreState.writeReg_of_not_writable (h : ∀ r ∈ Reg.ofNumber n, r.writable = false)
    (v : Word64) : c.writeReg n v = c := by
  cases ha : c.active with
  | true => exact CoreState.writeReg_active ha n v
  | false =>
    cases hn : Reg.ofNumber n with
    | none => simp [CoreState.writeReg, hn]
    | some r => rw [CoreState.writeReg_of_number ha hn, Reg.store_of_not_writable (h r hn)]

/-- What an idle CORE reads back from a register just written. -/
theorem CoreState.readReg_writeReg_same (hidle : c.active = false) (h : Reg.ofNumber n = some r)
    (v : Word64) : (c.writeReg n v).readReg n = r.value (r.store c v) := by
  rw [CoreState.writeReg_of_number hidle h, CoreState.readReg_of_number h]

end

theorem CoreState.readReg_writeReg_of_ne {n m : BitVec 6} (h : n ≠ m) (c : CoreState) (v : Word64) :
    (c.writeReg n v).readReg m = c.readReg m := by
  cases ha : c.active with
  | true => rw [CoreState.writeReg_active ha]
  | false =>
    cases hn : Reg.ofNumber n with
    | none => rw [CoreState.writeReg_of_not_writable (by simp [hn])]
    | some r =>
      cases hm : Reg.ofNumber m with
      | none => rw [CoreState.readReg_of_unassigned hm, CoreState.readReg_of_unassigned hm]
      | some r' =>
        have hne : r' ≠ r := fun heq =>
          h (by rw [← Reg.number_of_ofNumber hn, ← Reg.number_of_ofNumber hm, heq])
        rw [CoreState.writeReg_of_number ha hn, CoreState.readReg_of_number hm,
          CoreState.readReg_of_number hm, Reg.value_store, if_neg hne]

/-! The mappings of the WARL registers (R25). -/

theorem legalPosLen_toNat (v : Word64) : (legalPosLen v).toNat = min (v.toNat % 16) 8 := by
  unfold legalPosLen
  split <;> simp <;> omega

theorem legalCount_toNat (v : Word64) :
    (legalCount v).toNat = if 1 ≤ v.toNat % 256 then v.toNat % 256 else 1 := by
  unfold legalCount
  split
  · rw [if_neg (by omega)]; rfl
  · rw [if_pos (by omega)]; simp

theorem legalRxlen_toNat (v : Word64) : (legalRxlen v).toNat = min (v.toNat % 512) 260 := by
  unfold legalRxlen
  split <;> simp <;> omega

theorem bit_toNat (b : Bool) : (bit b).toNat = if b then 1 else 0 := by
  cases b <;> rfl

theorem typeCode_toNat (t : TransferType) : (typeCode t).toNat =
    match t with | .cashable => 0 | .restricted => 1 | .nonRestricted => 2 := by
  cases t <;> rfl

/-- Settles O43: a number names at most one register, and each register is a field of its own. -/
theorem registerMapReadsAndWrites : Obligations.RegisterMapReadsAndWrites := by
  unfold Obligations.RegisterMapReadsAndWrites
  refine ⟨?_, fun c n m v h => CoreState.readReg_writeReg_of_ne h c v, ?_, ?_, ?_, ?_, ?_⟩
  · intro c n w v hidle h
    simp only [List.mem_cons, Prod.mk.injEq, List.not_mem_nil, or_false] at h
    have hv := v.isLt
    rcases h with ⟨rfl, rfl⟩ | ⟨rfl, rfl⟩ | ⟨rfl, rfl⟩ | ⟨rfl, rfl⟩ | ⟨rfl, rfl⟩ | ⟨rfl, rfl⟩ |
      ⟨rfl, rfl⟩ | ⟨rfl, rfl⟩ | ⟨rfl, rfl⟩ | ⟨rfl, rfl⟩ | ⟨rfl, rfl⟩ | ⟨rfl, rfl⟩ <;>
      rw [CoreState.readReg_writeReg_same hidle rfl] <;> simp [Reg.store, Reg.value] <;> omega
  · intro c n v h
    have hnone : Reg.ofNumber n = none := by revert h; revert n; decide
    exact ⟨CoreState.readReg_of_unassigned hnone,
      CoreState.writeReg_of_not_writable (by simp [hnone]) v⟩
  · intro c n v h
    have hro : ∀ r ∈ Reg.ofNumber n, r.writable = false := by revert h; revert n; decide
    exact CoreState.writeReg_of_not_writable hro v
  · intro c v hidle
    refine ⟨?_, ?_, ?_, ?_⟩ <;> rw [CoreState.readReg_writeReg_same hidle rfl]
    · exact (BitVec.toNat_setWidth_of_le (by decide)).trans (legalPosLen_toNat v)
    · exact (BitVec.toNat_setWidth_of_le (by decide)).trans (legalCount_toNat v)
    · exact (BitVec.toNat_setWidth_of_le (by decide)).trans (legalCount_toNat v)
    · exact (BitVec.toNat_setWidth_of_le (by decide)).trans (legalRxlen_toNat v)
  · intro c
    have hext {w : Nat} (h : w ≤ 64) (x : BitVec w) : (x.setWidth 64).toNat = x.toNat :=
      BitVec.toNat_setWidth_of_le h
    exact ⟨hext (by decide) _, hext (by decide) _, rfl, hext (by decide) _, hext (by decide) _,
      hext (by decide) _, hext (by decide) _, hext (by decide) _, hext (by decide) _,
      hext (by decide) _, hext (by decide) _, hext (by decide) _, hext (by decide) _,
      hext (by decide) _, rfl, rfl, hext (by decide) _⟩
  · intro c
    have hext {w : Nat} (h : w ≤ 64) (x : BitVec w) : (x.setWidth 64).toNat = x.toNat :=
      BitVec.toNat_setWidth_of_le h
    exact ⟨rfl, hext (by decide) _, rfl, rfl, rfl, hext (by decide) _, rfl, rfl, rfl, rfl, rfl, rfl,
      rfl, (hext (by decide) _).trans (bit_toNat _), rfl,
      (hext (by decide) _).trans (typeCode_toNat _), hext (by decide) _, hext (by decide) _, rfl,
      hext (by decide) _, hext (by decide) _, hext (by decide) _, hext (by decide) _,
      hext (by decide) _, hext (by decide) _⟩

end Sys2Proof.Machine
end

section
/-! SUPPORT. Host accesses of the memories (R41), the lock of the registers (R23), and the fields of the status
words (R22). -/

namespace Sys2Proof.Machine

/-- Settles O42. -/
theorem registerWritesAreLockedWhileActive : Obligations.RegisterWritesAreLockedWhileActive := by
  unfold Obligations.RegisterWritesAreLockedWhileActive
  intro s n v rest hev
  refine ⟨fun ha => ?_, fun _ => step_write hev⟩
  rw [step_write hev, CoreState.writeReg_active ha]
  rfl

/-! The memories (R41). -/

/-- No code at or beyond 256 has an entry (R40). -/
theorem MeterTable.find_beyond {lo : Nat} {t : MeterTable} (h : MeterTable.wfFrom lo t = true)
    {i : Nat} (hi : 256 ≤ i) : MeterTable.find t i = none := by
  induction t generalizing lo with
  | nil => rfl
  | cons e t ih =>
    simp only [MeterTable.wfFrom, Bool.and_eq_true, decide_eq_true_eq] at h
    obtain ⟨⟨-, hlt⟩, hrest⟩ := h
    have hlt : e.1 < 256 := hlt
    have hne : e.1 ≠ i := by omega
    simp only [MeterTable.find, if_neg hne]
    exact ih hrest

/-- What an idle CORE reads after a write inside the size (R41). -/
theorem Memory.read_write_inside {size i : Nat} {m : Memory} (hm : Memory.wf size m = true)
    (hi : i < size) (b : Byte) (j : Nat) :
    Memory.read (Memory.write size m i b) j = if j = i then b else Memory.read m j := by
  rw [Memory.read_write hm]
  simp [hi]

theorem CoreState.writeMem_idle {c : CoreState} (h : c.active = false) (p : Params) (i : Nat)
    (b : Byte) :
    c.writeMem p .pbuf i b = c.withBuf { c.buf with pbuf := Memory.write 256 c.buf.pbuf i b } ∧
    c.writeMem p .rxbuf i b = c.withBuf { c.buf with rxbuf := Memory.write 260 c.buf.rxbuf i b } ∧
    c.writeMem p .keybuf i b = c.withBuf { c.buf with keybuf := Memory.write 20 c.buf.keybuf i b } := by
  simp [CoreState.writeMem, h, Config.pbufSize, Config.frameMax, Config.keyLen]

/-- A write beyond the size has no effect (R41). -/
theorem CoreState.writeMem_beyond (p : Params) (c : CoreState) (i : Nat) (b : Byte) :
    (256 ≤ i → c.writeMem p .pbuf i b = c) ∧ (260 ≤ i → c.writeMem p .rxbuf i b = c) ∧
      (20 ≤ i → c.writeMem p .keybuf i b = c) := by
  have hskip {size : Nat} (h : size ≤ i) (m : Memory) : Memory.write size m i b = m :=
    if_neg (Nat.not_lt.mpr h)
  cases ha : c.active with
  | true => exact ⟨fun _ => c.writeMem_active ha .., fun _ => c.writeMem_active ha ..,
      fun _ => c.writeMem_active ha ..⟩
  | false =>
    obtain ⟨hpbuf, hrxbuf, hkeybuf⟩ := c.writeMem_idle ha p i b
    rw [hpbuf, hrxbuf, hkeybuf]
    exact ⟨fun h => by rw [hskip h]; rfl, fun h => by rw [hskip h]; rfl,
      fun h => by rw [hskip h]; rfl⟩

theorem CoreState.writeMem_readOnly (p : Params) (c : CoreState) (i : Nat) (b : Byte) :
    c.writeMem p .txbuf i b = c ∧ c.writeMem p .mtab i b = c := by
  simp [CoreState.writeMem]

/-- A write inside the size stores its byte and changes no other (R41). -/
theorem CoreState.readMem_writeMem_same {c : CoreState} (hc : MemoriesCanonical c)
    (hidle : c.active = false) (p : Params) (i j : Nat) (b : Byte) :
    (i < 256 → (c.writeMem p .pbuf i b).readMem .pbuf j =
      if j = i then .byte b else c.readMem .pbuf j) ∧
    (i < 260 → (c.writeMem p .rxbuf i b).readMem .rxbuf j =
      if j = i then .byte b else c.readMem .rxbuf j) ∧
    (i < 20 → (c.writeMem p .keybuf i b).readMem .keybuf j =
      if j = i then .byte b else c.readMem .keybuf j) := by
  obtain ⟨hpbuf, -, hrxbuf, hkeybuf⟩ := hc
  obtain ⟨hwpbuf, hwrxbuf, hwkeybuf⟩ := c.writeMem_idle hidle p i b
  rw [hwpbuf, hwrxbuf, hwkeybuf]
  refine ⟨fun hi => ?_, fun hi => ?_, fun hi => ?_⟩
  · exact (congrArg HostRead.byte (Memory.read_write_inside hpbuf hi b j)).trans (apply_ite _ _ _ _)
  · exact (congrArg HostRead.byte (Memory.read_write_inside hrxbuf hi b j)).trans (apply_ite _ _ _ _)
  · exact (congrArg HostRead.byte (Memory.read_write_inside hkeybuf hi b j)).trans (apply_ite _ _ _ _)

/-- A memory that a host write does not name reads as before. -/
theorem CoreState.readMem_writeMem_of_ne {m m' : MemSpace} (h : m' ≠ m) (p : Params) (c : CoreState)
    (i j : Nat) (b : Byte) : (c.writeMem p m i b).readMem m' j = c.readMem m' j := by
  unfold CoreState.writeMem
  split
  · rfl
  · cases m <;> cases m' <;> simp [CoreState.readMem] at h ⊢

theorem CoreState.readReg_writeMem (p : Params) (c : CoreState) (m : MemSpace) (i : Nat) (b : Byte)
    (n : BitVec 6) : (c.writeMem p m i b).readReg n = c.readReg n := by
  obtain ⟨pbuf, rxbuf, keybuf, heq⟩ := c.writeMem_eq p m i b
  rw [heq]
  rfl

/-- Settles O44, from what a write of each memory does inside its size, beyond it and elsewhere. -/
theorem hostMemoryAccesses : Obligations.HostMemoryAccesses := by
  unfold Obligations.HostMemoryAccesses
  refine ⟨?_, ?_, ?_, ?_, ?_, fun s m i b rest hev => step_writeB hev⟩
  · intro c i
    exact ⟨rfl, rfl, rfl, rfl, fun v h => by simp [CoreState.readMem, h],
      fun h => by simp [CoreState.readMem, h]⟩
  · intro c i hc hmtab
    obtain ⟨hpbuf, htxbuf, hrxbuf, hkeybuf⟩ := hc
    refine ⟨fun hi => ⟨?_, ?_⟩, fun hi => ⟨?_, ?_⟩, fun hi => ?_⟩
    · exact congrArg _ (Memory.read_beyond hpbuf hi)
    · simp [CoreState.readMem, MeterTable.find_beyond hmtab hi]
    · exact congrArg _ (Memory.read_beyond htxbuf hi)
    · exact congrArg _ (Memory.read_beyond hrxbuf hi)
    · exact congrArg _ (Memory.read_beyond hkeybuf hi)
  · intro p c i b
    obtain ⟨htxbuf, hmtab⟩ := c.writeMem_readOnly p i b
    obtain ⟨hpbuf, hrxbuf, hkeybuf⟩ := c.writeMem_beyond p i b
    exact ⟨htxbuf, hmtab, hpbuf, hrxbuf, hkeybuf, fun ha m => c.writeMem_active ha p m i b⟩
  · exact fun p c i j b hc hidle => c.readMem_writeMem_same hc hidle p i j b
  · intro p c m i b
    refine ⟨fun m' j h => CoreState.readMem_writeMem_of_ne h p c i j b,
      c.readReg_writeMem p m i b, ?_⟩
    obtain ⟨pbuf, rxbuf, keybuf, heq⟩ := c.writeMem_eq p m i b
    rw [heq]
    rfl

/-! The status words (R22). Each word is its fields, written side by side: the lemmas `extract_…` give
it with the sum of their widths for its width, and the lemmas `…_fields` cut them out. -/

theorem CoreState.extract_statusWord (c : CoreState) (i n : Nat) : c.statusWord.extractLsb' i n =
    (0#44 ++ c.status.failKind.code ++ bit c.exch.xchgAct ++ bit c.status.cancelPending
      ++ c.status.phase.code ++ c.status.seq.code ++ 0#2 ++ bit c.status.partialResult
      ++ bit c.active ++ c.status.err.code).extractLsb' i n := rfl

theorem CoreState.statusWord_fields (c : CoreState) :
    c.statusWord.extractLsb' 0 4 = c.status.err.code ∧
    c.statusWord.extractLsb' 4 1 = bit c.active ∧
    c.statusWord.extractLsb' 5 1 = bit c.status.partialResult ∧
    c.statusWord.extractLsb' 6 2 = 0 ∧
    c.statusWord.extractLsb' 8 4 = c.status.seq.code ∧
    c.statusWord.extractLsb' 12 2 = c.status.phase.code ∧
    c.statusWord.extractLsb' 14 1 = bit c.status.cancelPending ∧
    c.statusWord.extractLsb' 15 1 = bit c.exch.xchgAct ∧
    c.statusWord.extractLsb' 16 4 = c.status.failKind.code ∧
    c.statusWord.extractLsb' 20 44 = 0 := by
  simp (disch := decide) only [CoreState.extract_statusWord, BitVec.extractLsb'_append_eq_of_add_le,
    BitVec.extractLsb'_append_eq_of_le, Nat.reduceSub, BitVec.extractLsb'_eq_self,
    BitVec.ofNat_eq_ofNat, and_self]

theorem SeqInfo.extract_word (q : SeqInfo) (i n : Nat) : q.word.extractLsb' i n =
    (0#48 ++ q.pollsDone ++ 0#3 ++ bit q.xferReplied ++ bit q.regReplied ++ bit q.toXfer
      ++ bit q.toReg ++ bit q.retryUsed).extractLsb' i n := rfl

theorem SeqInfo.word_fields (q : SeqInfo) :
    q.word.extractLsb' 0 1 = bit q.retryUsed ∧ q.word.extractLsb' 1 1 = bit q.toReg ∧
    q.word.extractLsb' 2 1 = bit q.toXfer ∧ q.word.extractLsb' 3 1 = bit q.regReplied ∧
    q.word.extractLsb' 4 1 = bit q.xferReplied ∧ q.word.extractLsb' 5 3 = 0 ∧
    q.word.extractLsb' 8 8 = q.pollsDone ∧ q.word.extractLsb' 16 48 = 0 := by
  simp (disch := decide) only [SeqInfo.extract_word, BitVec.extractLsb'_append_eq_of_add_le,
    BitVec.extractLsb'_append_eq_of_le, Nat.reduceSub, BitVec.extractLsb'_eq_self,
    BitVec.ofNat_eq_ofNat, and_self]

theorem BalanceStatus.extract_word (b : BalanceStatus) (i n : Nat) : b.word.extractLsb' i n =
    (0#47 ++ bit b.valid ++ b.aft ++ b.lock).extractLsb' i n := rfl

theorem BalanceStatus.word_fields (b : BalanceStatus) :
    b.word.extractLsb' 0 8 = b.lock ∧ b.word.extractLsb' 8 8 = b.aft ∧
    b.word.extractLsb' 16 1 = bit b.valid ∧ b.word.extractLsb' 17 47 = 0 := by
  simp (disch := decide) only [BalanceStatus.extract_word, BitVec.extractLsb'_append_eq_of_add_le,
    BitVec.extractLsb'_append_eq_of_le, Nat.reduceSub, BitVec.extractLsb'_eq_self,
    BitVec.ofNat_eq_ofNat, and_self]

theorem ResultRegs.extract_frameWord (r : ResultRegs) (i n : Nat) : r.frameWord.extractLsb' i n =
    (0#40 ++ r.frameLen ++ r.frameCmd ++ r.frameAddr).extractLsb' i n := rfl

theorem ResultRegs.frameWord_fields (r : ResultRegs) :
    r.frameWord.extractLsb' 0 8 = r.frameAddr ∧ r.frameWord.extractLsb' 8 8 = r.frameCmd ∧
    r.frameWord.extractLsb' 16 8 = r.frameLen ∧ r.frameWord.extractLsb' 24 40 = 0 := by
  simp (disch := decide) only [ResultRegs.extract_frameWord,
    BitVec.extractLsb'_append_eq_of_add_le, BitVec.extractLsb'_append_eq_of_le, Nat.reduceSub,
    BitVec.extractLsb'_eq_self, BitVec.ofNat_eq_ofNat, and_self]

/-- A field of one bit is that bit of the word. -/
theorem getLsbD_of_bit_field {w i : Nat} {x : BitVec w} {b : Bool}
    (h : x.extractLsb' i 1 = bit b) : x.getLsbD i = b := by
  have hbit := congrArg (BitVec.getLsbD · 0) h
  simpa [bit] using hbit

/-- The active states are those with the codes 1 to 5 (R21, R30). -/
theorem SeqState.isActive_iff_code (q : SeqState) :
    q.isActive = true ↔ 1 ≤ q.code.toNat ∧ q.code.toNat ≤ 5 := by
  cases q <;> decide

/-- Settles O46: the fields are cut out of the words, and BUSY is the bit of `CoreState.active`. -/
theorem statusWordFields : Obligations.StatusWordFields := by
  unfold Obligations.StatusWordFields
  refine ⟨?_, ?_, ?_, ResultRegs.frameWord_fields, ?_, ?_, ?_⟩
  · intro c
    obtain ⟨herr, hbusy, hpartial, hzero, hseq, hphase, hcancel, hxchg, hfail, hhigh⟩ :=
      c.statusWord_fields
    refine ⟨herr, ?_, getLsbD_of_bit_field hpartial, hzero, hseq, hphase,
      getLsbD_of_bit_field hcancel, getLsbD_of_bit_field hxchg, hfail, hhigh⟩
    rw [getLsbD_of_bit_field hbusy, CoreState.active, Bool.or_eq_true, SeqState.isActive_iff_code]
  · intro q
    obtain ⟨hretry, htoReg, htoXfer, hregReplied, hxferReplied, hzero, hpolls, hhigh⟩ := q.word_fields
    exact ⟨getLsbD_of_bit_field hretry, getLsbD_of_bit_field htoReg, getLsbD_of_bit_field htoXfer,
      getLsbD_of_bit_field hregReplied, getLsbD_of_bit_field hxferReplied, hzero, hpolls, hhigh⟩
  · intro b
    obtain ⟨hlock, haft, hvalid, hhigh⟩ := b.word_fields
    exact ⟨hlock, haft, getLsbD_of_bit_field hvalid, hhigh⟩
  · intro e; cases e <;> rfl
  · intro q; cases q <;> rfl
  · intro p; cases p <;> rfl

end Sys2Proof.Machine
end

section
/-! SUPPORT. What the operations that reactions share leave unchanged, and what they write in the memories: the
frame of an exchange, the lengths of the frames built, the tick, and the rules of the host operations. -/

namespace Sys2Proof.Machine

/-- d keeps of c everything that neither an exchange nor the sequencer writes at the end of one: STATUS,
SEQ_INFO, BAL_*, BAL_STAT and the hidden unit may differ, and RXLEN may have been cleared (R221). -/
structure ExchangeFrame (c d : CoreState) : Prop where
  cfg : d.cfg = c.cfg
  opnd : d.opnd = c.opnd
  res : d.res = c.res
  pre : d.pre = c.pre
  preValid : d.preValid = c.preValid
  req : d.req = c.req
  elapsed : d.elapsed = c.elapsed
  buf : d.buf = { c.buf with rxlen := d.buf.rxlen }
  rxlen_le : d.buf.rxlen.toNat ≤ c.buf.rxlen.toNat

/-- AFT_CANCEL has no effect outside a sequence, waits for the end of a write, and otherwise ends the
sequence at once (R262). -/
theorem aftCancelRule_cases (c : CoreState) :
    (c.status.seq.isActive = false ∧ aftCancelRule c = c.raise .ok) ∨
    (c.status.seq.isActive = true ∧ c.status.phase = .tx ∧ aftCancelRule c =
      (c.raise .ok).withStatus { (c.raise .ok).status with cancelPending := true }) ∨
    (c.status.seq.isActive = true ∧ c.status.phase ≠ .tx ∧
      aftCancelRule c = (c.raise .ok).fail .cancelled) := by
  have heq : aftCancelRule c = if c.status.seq.isActive then
      if c.status.phase = .tx then
        (c.raise .ok).withStatus { (c.raise .ok).status with cancelPending := true }
      else (c.raise .ok).fail .cancelled
    else c.raise .ok := rfl
  rw [heq]
  split
  · split
    · exact .inr (.inl ⟨‹_›, ‹_›, rfl⟩)
    · exact .inr (.inr ⟨‹_›, ‹_›, rfl⟩)
  · rename_i h
    exact .inl ⟨by simpa using h, rfl⟩

namespace ExchangeFrame

theorem trans {c d e : CoreState} (h₁ : ExchangeFrame c d) (h₂ : ExchangeFrame d e) :
    ExchangeFrame c e where
  cfg := h₂.cfg.trans h₁.cfg
  opnd := h₂.opnd.trans h₁.opnd
  res := h₂.res.trans h₁.res
  pre := h₂.pre.trans h₁.pre
  preValid := h₂.preValid.trans h₁.preValid
  req := h₂.req.trans h₁.req
  elapsed := h₂.elapsed.trans h₁.elapsed
  buf := by rw [h₂.buf, h₁.buf]
  rxlen_le := h₂.rxlen_le.trans h₁.rxlen_le

/-- An operation that keeps the fields and all of the memories. -/
theorem of_buf_eq {c d : CoreState} (cfg : d.cfg = c.cfg) (opnd : d.opnd = c.opnd)
    (res : d.res = c.res) (pre : d.pre = c.pre) (preValid : d.preValid = c.preValid)
    (req : d.req = c.req) (elapsed : d.elapsed = c.elapsed) (buf : d.buf = c.buf) :
    ExchangeFrame c d :=
  ⟨cfg, opnd, res, pre, preValid, req, elapsed, by rw [buf], by rw [buf]⟩

theorem refl (c : CoreState) : ExchangeFrame c c := of_buf_eq rfl rfl rfl rfl rfl rfl rfl rfl

theorem raise (c : CoreState) (e : ErrCode) : ExchangeFrame c (c.raise e) :=
  of_buf_eq rfl rfl rfl rfl rfl rfl rfl rfl

theorem withStatus (c : CoreState) (x : Status) : ExchangeFrame c (c.withStatus x) :=
  of_buf_eq rfl rfl rfl rfl rfl rfl rfl rfl

theorem withExch (c : CoreState) (x : ExchangeUnit) : ExchangeFrame c (c.withExch x) :=
  of_buf_eq rfl rfl rfl rfl rfl rfl rfl rfl

theorem withSeqInfo (c : CoreState) (x : SeqInfo) : ExchangeFrame c (c.withSeqInfo x) :=
  of_buf_eq rfl rfl rfl rfl rfl rfl rfl rfl

theorem fail (c : CoreState) (k : ErrCode) : ExchangeFrame c (c.fail k) :=
  of_buf_eq rfl rfl rfl rfl rfl rfl rfl rfl

theorem settle (c : CoreState) : ExchangeFrame c c.settle :=
  of_buf_eq rfl rfl rfl rfl rfl rfl rfl rfl

theorem endWrite (c : CoreState) : ExchangeFrame c c.endWrite := by
  apply of_buf_eq <;> simp

theorem startExchange (c : CoreState) (w : Owner) : ExchangeFrame c (c.startExchange w) := by
  constructor <;> simp

theorem pollDecide (c : CoreState) (ok : Bool) : ExchangeFrame c (c.pollDecide ok) := by
  apply of_buf_eq <;> simp

theorem balanceBody {p : Params} {c d : CoreState} (h : balanceBody p c = .ok d) :
    ExchangeFrame c d := by
  obtain ⟨b, -, -, rfl⟩ := balanceBody_ok h
  exact of_buf_eq rfl rfl rfl rfl rfl rfl rfl rfl

theorem pollEnd (p : Params) (c : CoreState) (r : ExchangeOutcome) :
    ExchangeFrame c (c.pollEnd p r) := by
  have hcount := withSeqInfo c { c.seqInfo with pollsDone := c.seqInfo.pollsDone + 1 }
  rcases CoreState.pollEnd_cases p c r with ⟨c₂, -, hbody, heq⟩ | ⟨-, heq⟩
  · exact heq ▸ (hcount.trans (balanceBody hbody)).trans (pollDecide _ _)
  · exact heq ▸ hcount.trans (pollDecide _ _)

theorem seqExchangeEnd (p : Params) (c : CoreState) (r : ExchangeOutcome) :
    ExchangeFrame c (c.seqExchangeEnd p r) := by
  rcases CoreState.seqExchangeEnd_cases p c r with
    ⟨-, heq⟩ | ⟨-, -, heq⟩ | ⟨-, -, -, heq⟩ | ⟨-, -, -, -, heq⟩ | ⟨-, -, -, -, heq⟩ <;> rw [heq]
  · exact fail c _
  · exact pollEnd p c r
  · exact (withSeqInfo c _).trans (settle _)
  · exact (withSeqInfo c _).trans (startExchange _ _)
  · exact (withSeqInfo c _).trans (settle _)

theorem endRead (p : Params) (c : CoreState) (r : ExchangeOutcome) :
    ExchangeFrame c (c.endRead p r) := by
  have hclosed := (withExch c { c.exch with rxOpen := false }).trans
    (withStatus _ { c.status with phase := .none })
  rcases CoreState.endRead_cases p c r with ⟨-, heq⟩ | ⟨-, heq⟩ <;> rw [heq]
  · exact hclosed.trans (of_buf_eq rfl rfl rfl rfl rfl rfl rfl rfl)
  · exact hclosed.trans (seqExchangeEnd p _ r)

theorem txAccept (c : CoreState) : ExchangeFrame c c.txAccept := by
  have hnext := withExch c { c.exch with txPos := c.exch.txPos + 1 }
  simp only [CoreState.txAccept]
  split
  · exact hnext.trans (endWrite _)
  · exact hnext

theorem chanErr (p : Params) (c : CoreState) : ExchangeFrame c (c.chanErr p) := by
  unfold CoreState.chanErr
  split
  · exact endRead p c .transport
  · exact refl c

theorem aftCancelRule (c : CoreState) : ExchangeFrame c (aftCancelRule c) := by
  have herr := raise c .ok
  rcases aftCancelRule_cases c with ⟨-, heq⟩ | ⟨-, -, heq⟩ | ⟨-, -, heq⟩ <;> rw [heq]
  · exact herr
  · exact herr.trans (withStatus _ _)
  · exact herr.trans (fail _ _)

end ExchangeFrame

/-- A received byte is lost, or it is stored by an open read attempt, which may then end (R222). -/
theorem CoreState.rxByte_frame (p : Params) (c : CoreState) (b : Byte) :
    c.rxByte p b = c ∨
      (c.exch.rxOpen = true ∧ ExchangeFrame (c.storeRx p b) (c.rxByte p b)) := by
  rcases CoreState.rxByte_cases p c b with ⟨-, heq⟩ | ⟨ho, heq, -⟩ | ⟨ho, heq, -⟩
  · exact .inl heq
  · exact .inr ⟨ho, heq ▸ .endRead p _ _⟩
  · exact .inr ⟨ho, heq ▸ .refl _⟩

/-! The lengths of the frames that the CORE builds (R40: at most 260 bytes). -/

theorem packDigits_length_le : (ds : List Nat) → (packDigits ds).length ≤ ds.length
  | [] => by simp [packDigits]
  | [_] => by simp [packDigits]
  | _ :: _ :: rest => by
    have := packDigits_length_le rest
    simp only [packDigits, List.length_cons]
    omega

/-- An amount of 64 bits has at most 20 digits, so its field, though it may exceed five bytes, stays
short. -/
theorem amountField_length_le {v : Nat} (h : v < 2 ^ 64) :
    (bcdBytes v Config.amountLen).length ≤ 20 := by
  have hdigits : (digits v).length ≤ 20 := (digits_length_le_iff 19 v).mpr (by omega)
  refine (packDigits_length_le _).trans ?_
  simp only [List.length_append, List.length_replicate, Config.amountLen]
  omega

theorem amountFields_lt {t : TransferType} {v : Nat} (h : v < 2 ^ 64) :
    (amountFields t v).1 < 2 ^ 64 ∧ (amountFields t v).2.1 < 2 ^ 64 ∧
      (amountFields t v).2.2 < 2 ^ 64 := by
  cases t <;> simp [amountFields] <;> exact h

@[simp] theorem poolBytes_length (p : Params) (g : ConfigRegs) : (poolBytes p g).length = 2 := by
  unfold poolBytes; split <;> rfl

theorem transferFrame_length_le (p : Params) (c : CoreState) (t : TransferType) {v : Nat}
    (h : v < 2 ^ 64) (id : Word32) : (transferFrame p c t v id).length ≤ 260 := by
  obtain ⟨hcash, hrest, hnonr⟩ := amountFields_lt (t := t) h
  have hcash := amountField_length_le hcash
  have hrest := amountField_length_le hrest
  have hnonr := amountField_length_le hnonr
  have hid := id_digits_length id
  simp only [transferFrame, transferPayload, buildFrame_length, List.length_append,
    List.length_cons, List.length_nil, le32_length, CoreState.key_eq, Memory.readRange_length,
    asciiOfId_length, poolBytes_length]
  omega

theorem registrationFrame_length (p : Params) (c : CoreState) :
    (registrationFrame p c).length = 34 := by
  simp [registrationFrame, ConfigRegs.posField, Config.posFieldLen]

@[simp] theorem balanceQueryFrame_length (c : CoreState) : (balanceQueryFrame c).length = 5 := by
  simp [balanceQueryFrame]

/-- TXLEN after a frame of at most 260 bytes was loaded is its length. -/
theorem CoreState.loadTx_txlen (p : Params) (c : CoreState) {f : List Byte} (h : f.length ≤ 260) :
    (c.loadTx p f).buf.txlen.toNat = f.length := by
  simp [CoreState.loadTx_eq]; omega

/-! What a tick changes. -/

/-- The frame f in TXBUF, and a value in REQ_TXID. -/
def CoreState.loadStep (p : Params) (c : CoreState) (id : Word32) (f : List Byte) : CoreState :=
  (c.withReq { c.req with txid := id }).loadTx p f

theorem CoreState.enterTransferring_frame (p : Params) (c : CoreState) :
    ∃ id f, f.length ≤ 260 ∧ ExchangeFrame (c.loadStep p id f) (c.enterTransferring p) := by
  let d := (c.withTxidLast (c.txidLast + 1)).withReq { c.req with txid := c.txidLast + 1 }
  let f := transferFrame p d d.req.type d.req.amount.toNat (c.txidLast + 1)
  have hloaded : ExchangeFrame (c.loadStep p (c.txidLast + 1) f) (d.loadTx p f) :=
    .of_buf_eq rfl rfl rfl rfl rfl rfl rfl rfl
  refine ⟨c.txidLast + 1, f, transferFrame_length_le p d _ d.req.amount.isLt _, ?_⟩
  unfold CoreState.enterTransferring
  exact ((hloaded.trans (.withSeqInfo _ _)).trans (.withStatus _ _)).trans (.startExchange _ _)

theorem CoreState.enterVerify_frame (p : Params) (c : CoreState) :
    ∃ id f, f.length ≤ 260 ∧ ExchangeFrame (c.loadStep p id f) (c.enterVerify p) := by
  let d := c.withSeqInfo { c.seqInfo with pollsDone := 0 }
  let f := balanceQueryFrame c
  have hloaded : ExchangeFrame (c.loadStep p c.req.txid f) (d.loadTx p f) :=
    .of_buf_eq rfl rfl rfl rfl rfl rfl rfl rfl
  refine ⟨c.req.txid, f, by simp [f], ?_⟩
  exact (hloaded.trans (.withStatus _ _)).trans (.startExchange _ _)

/-- The tick that ends a settle wait puts a frame in TXBUF, and REQ_TXID may be new; any other tick of a
wait changes what an exchange changes (R242, R256, R257). -/
theorem CoreState.tickWait_frame (p : Params) (c : CoreState) :
    ExchangeFrame c (c.tickWait p) ∨
      ∃ id f, f.length ≤ 260 ∧ ExchangeFrame (c.loadStep p id f) (c.tickWait p) := by
  have htimer : ExchangeFrame c c.tickTimer := .withExch c _
  have hload (id : Word32) (f : List Byte) :
      ExchangeFrame (c.loadStep p id f) (c.tickTimer.loadStep p id f) :=
    .of_buf_eq rfl rfl rfl rfl rfl rfl rfl rfl
  rcases CoreState.tickWait_cases p c with ⟨-, -, heq⟩ | ⟨-, -, heq⟩ | ⟨-, -, heq⟩ | heq <;> rw [heq]
  · obtain ⟨id, f, hf, h⟩ := c.tickTimer.enterTransferring_frame p
    exact .inr ⟨id, f, hf, (hload id f).trans h⟩
  · obtain ⟨id, f, hf, h⟩ := c.tickTimer.enterVerify_frame p
    exact .inr ⟨id, f, hf, (hload id f).trans h⟩
  · exact .inl (htimer.trans (.startExchange _ _))
  · exact .inl htimer

/-- A tick counts the time of the state, and only the end of a settle wait puts a frame in TXBUF
(R32, R242). -/
theorem CoreState.tick_frame (p : Params) (c : CoreState) :
    let c' := c.withElapsed (c.elapsed.tick c.status.seq)
    ExchangeFrame c' (c.tick p) ∨ (c.status.phase = .wait ∧ ∃ id f, f.length ≤ 260 ∧
      ExchangeFrame (c'.loadStep p id f) (c.tick p)) := by
  intro c'
  have htimer : ExchangeFrame c' c'.tickTimer := .withExch c' _
  rcases CoreState.tick_cases p c with
    ⟨-, -, heq⟩ | ⟨-, -, heq⟩ | ⟨-, hwait, heq⟩ | ⟨-, -, heq⟩ <;> rw [heq]
  · exact .inl htimer
  · exact .inl (htimer.trans (.endRead p _ _))
  · exact (c'.tickWait_frame p).imp_right fun h => ⟨hwait, h⟩
  · exact .inl (.refl c')

/-! What a host operation changes. -/

/-- The parse of a response keeps the table canonical and free of code 0x00 (R44, R166). -/
theorem meterScan_wf (p : Params) (fuel : Nat) (region : List Byte) (attempts : Nat) (t : MeterTable)
    (hwf : MeterTable.wf t = true) (hzero : MeterTable.find t 0 = none) :
    MeterTable.wf (meterScan p fuel region attempts t).1 = true ∧
      MeterTable.find (meterScan p fuel region attempts t).1 0 = none := by
  fun_induction meterScan p fuel region attempts t with
  | case3 _ _ _ _ ih => exact ih hwf hzero
  | case7 _ code _ _ hcode _ _ l _ _ v _ ih =>
    have hpos : code.toNat ≠ 0 := fun h => hcode (BitVec.eq_of_toNat_eq h)
    exact ih (MeterTable.set_wfFrom hwf (Nat.zero_le _) code.isLt _)
      (by rw [MeterTable.find_set, if_neg hpos.symm, hzero])
  | _ => exact ⟨hwf, hzero⟩

theorem meterParse_wf (p : Params) (cap : Nat) (bs : List Byte) :
    MeterTable.wf (meterParse p cap bs).1 = true ∧ MeterTable.find (meterParse p cap bs).1 0 = none :=
  meterScan_wf p _ _ _ [] rfl rfl

/-- AFT_START is Busy in a terminal state, fails at once without room for the amount or for an id, and
otherwise starts the registration exchange (R250). -/
theorem aftStartRule_cases (p : Params) (t : TransferType) (c : CoreState) :
    (c.status.seq ≠ .idle ∧ aftStartRule p t c = c.raise .busy) ∨
    (c.status.seq = .idle ∧ aftStartRule p t c =
      ((c.latchRequest t).withStatus { (c.latchRequest t).status with
        seq := .failed, failKind := .encodingError }).raise .encodingError) ∨
    (c.status.seq = .idle ∧ aftStartRule p t c =
      (((c.latchRequest t).snapshot.loadTx p (registrationFrame p (c.latchRequest t).snapshot)).withStatus
        { (c.latchRequest t).status with seq := .registering, err := .ok }).startExchange
          .sequencer) := by
  unfold aftStartRule
  split
  · exact .inl ⟨‹_›, rfl⟩
  · rename_i hidle
    have hidle : c.status.seq = .idle := not_not.mp hidle
    dsimp only
    split
    · exact .inr (.inl ⟨hidle, rfl⟩)
    · exact .inr (.inr ⟨hidle, rfl⟩)

/-- What the rule of a host operation may leave in the memories: what was there, a frame in TXBUF, or a
meter table; XCHG and AFT_START discard the last response. -/
inductive HostWrites (p : Params) (c : CoreState) : Buffers → Prop
  | kept (n : BitVec 9) (hn : n.toNat ≤ c.buf.rxlen.toNat) : HostWrites p c { c.buf with rxlen := n }
  | frame (n : BitVec 9) (hn : n.toNat ≤ c.buf.rxlen.toNat) (f : List Byte) (hf : f.length ≤ 260) :
      HostWrites p c { (c.loadTx p f).buf with rxlen := n }
  | meters (t : MeterTable) (hwf : MeterTable.wf t = true) (hzero : MeterTable.find t 0 = none) :
      HostWrites p c { c.buf with mtab := t, mcount := BitVec.ofNat 8 t.length }

theorem HostWrites.same (p : Params) (c : CoreState) : HostWrites p c c.buf := .kept _ (Nat.le_refl _)

theorem HostWrites.loaded (p : Params) (c : CoreState) {f : List Byte} (hf : f.length ≤ 260) :
    HostWrites p c (c.loadTx p f).buf := .frame _ (Nat.le_refl _) f hf

theorem HostRule.writes {p : Params} {rule : CoreState → CoreState} (h : HostRule p rule)
    (c : CoreState) : HostWrites p c (rule c).buf := by
  cases h with
  | crc16 src => exact .same p c
  | bcdEnc n => unfold bcdEncRule; split <;> exact .same p c
  | bcdDec n => unfold bcdDecRule; split <;> exact .same p c
  | frameParse => unfold frameParseRule; split <;> exact .same p c
  | frameBuild command =>
    have hplen := c.buf.plen.isLt
    exact .loaded p c (by simp [CoreState.payload]; omega)
  | buildReg => exact .loaded p c (by simp [registrationFrame_length])
  | buildBalq => exact .loaded p c (by simp)
  | buildXfer t =>
    unfold buildXferRule
    split
    · exact .same p c
    · exact .loaded p c (transferFrame_length_le p c t c.opnd.value.isLt _)
  | meterParse =>
    obtain ⟨hwf, hzero⟩ := meterParse_wf p c.cfg.mcap.toNat c.rxBytes
    unfold meterParseRule
    split
    · exact .meters [] rfl rfl
    · exact .meters _ hwf hzero
  | balParse =>
    unfold balParseRule
    split
    · rename_i d hd
      obtain ⟨b, -, -, rfl⟩ := balanceBody_ok hd
      exact .same p c
    · exact .same p c
  | xchg =>
    simp only [xchgRule, CoreState.startExchange_txbuf]
    exact .kept 0 (Nat.zero_le _)
  | aftStart t =>
    rcases aftStartRule_cases p t c with ⟨-, heq⟩ | ⟨-, heq⟩ | ⟨-, heq⟩ <;> rw [heq]
    · exact .same p c
    · exact .same p c
    · rw [CoreState.startExchange_txbuf]
      exact .frame 0 (Nat.zero_le _) _ (by simp [registrationFrame_length])
  | aftClear => unfold aftClearRule; split <;> exact .same p c

theorem HostRule.cfg_eq {p : Params} {rule : CoreState → CoreState} (h : HostRule p rule)
    (c : CoreState) : (rule c).cfg = c.cfg := by
  cases h with
  | crc16 src => rfl
  | bcdEnc n => unfold bcdEncRule; split <;> simp
  | bcdDec n => unfold bcdDecRule; split <;> simp
  | frameBuild command => rfl
  | frameParse => unfold frameParseRule; split <;> simp
  | meterParse => unfold meterParseRule; split <;> rfl
  | buildReg => rfl
  | buildXfer t => unfold buildXferRule; split <;> simp
  | buildBalq => rfl
  | balParse =>
    unfold balParseRule
    split
    · rename_i d hd
      exact (ExchangeFrame.balanceBody hd).cfg
    · rfl
  | xchg => simp [xchgRule]
  | aftStart t =>
    rcases aftStartRule_cases p t c with ⟨-, heq⟩ | ⟨-, heq⟩ | ⟨-, heq⟩ <;> simp [heq]
  | aftClear => unfold aftClearRule; split <;> simp

end Sys2Proof.Machine
end

section
/-! SUPPORT. The memories and the meter table stay canonical. -/

namespace Sys2Proof.Machine

/-! The invariants on the memories. -/

/-- An exchange writes no byte memory. -/
theorem MemoriesCanonical.of_frame {c d : CoreState} (hc : MemoriesCanonical c)
    (h : ExchangeFrame c d) : MemoriesCanonical d := by
  rw [MemoriesCanonical, h.buf]
  exact hc

theorem MemoriesCanonical.loadTx {c : CoreState} (hc : MemoriesCanonical c) (p : Params)
    (f : List Byte) : MemoriesCanonical (c.loadTx p f) := by
  obtain ⟨hpbuf, htxbuf, hrxbuf, hkeybuf⟩ := hc
  rw [CoreState.loadTx_eq]
  exact ⟨hpbuf, Memory.writeRange_wf htxbuf 0 f, hrxbuf, hkeybuf⟩

theorem MemoriesCanonical.loadStep {c : CoreState} (hc : MemoriesCanonical c) (p : Params)
    (id : Word32) (f : List Byte) : MemoriesCanonical (c.loadStep p id f) :=
  MemoriesCanonical.loadTx (c := c.withReq { c.req with txid := id }) hc p f

theorem MemoriesCanonical.storeRx {c : CoreState} (hc : MemoriesCanonical c) (p : Params) (b : Byte) :
    MemoriesCanonical (c.storeRx p b) := by
  obtain ⟨hpbuf, htxbuf, hrxbuf, hkeybuf⟩ := hc
  rw [CoreState.storeRx_eq]
  exact ⟨hpbuf, htxbuf, Memory.write_wf hrxbuf _ b, hkeybuf⟩

theorem MemoriesCanonical.writeMem {c : CoreState} (hc : MemoriesCanonical c) (p : Params)
    (m : MemSpace) (i : Nat) (b : Byte) : MemoriesCanonical (c.writeMem p m i b) := by
  have ⟨hpbuf, htxbuf, hrxbuf, hkeybuf⟩ := hc
  unfold CoreState.writeMem
  split
  · exact hc
  · cases m with
    | pbuf => simp only [Fixed.val_eq]; exact ⟨Memory.write_wf hpbuf i b, htxbuf, hrxbuf, hkeybuf⟩
    | rxbuf => simp only [Fixed.val_eq]; exact ⟨hpbuf, htxbuf, Memory.write_wf hrxbuf i b, hkeybuf⟩
    | keybuf => simp only [Fixed.val_eq]; exact ⟨hpbuf, htxbuf, hrxbuf, Memory.write_wf hkeybuf i b⟩
    | txbuf => exact hc
    | mtab => exact hc

theorem MemoriesCanonical.of_hostWrites {p : Params} {c d : CoreState} (hc : MemoriesCanonical c)
    (h : HostWrites p c d.buf) : MemoriesCanonical d := by
  rw [MemoriesCanonical]
  generalize d.buf = x at h ⊢
  cases h with
  | kept n hn => exact hc
  | frame n hn f hf => exact hc.loadTx p f
  | meters t hwf hzero => exact hc

theorem MemoriesCanonical.wireStep {p : Params} {c d : CoreState} (hc : MemoriesCanonical c)
    (h : WireStep p c d) : MemoriesCanonical d := by
  cases h with
  | accept h => exact hc.of_frame (.txAccept c)
  | receive b =>
    rcases c.rxByte_frame p b with heq | ⟨-, hf⟩
    · rw [heq]; exact hc
    · exact (hc.storeRx p b).of_frame hf

theorem MemoriesCanonical.reaction {p : Params} {c d : CoreState} (hc : MemoriesCanonical c)
    (h : Reaction p c d) : MemoriesCanonical d := by
  cases h with
  | wire h => exact WireStep.run_keeps (fun _ _ => .wireStep) hc h
  | raise e => exact hc
  | operation hrule hidle => exact hc.of_hostWrites (hrule.writes c)
  | cancel => exact hc.of_frame (.aftCancelRule c)
  | writeReg n v =>
    obtain ⟨cfg, opnd, plen, rxlen, heq⟩ := c.writeReg_eq n v
    rw [heq]
    exact hc
  | writeMem m i b => exact hc.writeMem p m i b
  | chanErr => exact hc.of_frame (.chanErr p c)
  | tick =>
    have hcount : MemoriesCanonical (c.withElapsed (c.elapsed.tick c.status.seq)) := hc
    rcases c.tick_frame p with hf | ⟨-, id, f, -, hf⟩
    · exact hcount.of_frame hf
    · exact (hcount.loadStep p id f).of_frame hf

/-- Settles O49: each reaction of the CORE writes the byte memories through `Memory.write` only. -/
theorem stepsKeepMemoriesCanonical : Obligations.StepsKeepMemoriesCanonical := by
  unfold Obligations.StepsKeepMemoriesCanonical
  intro s t hs h
  exact step_keeps (I := fun c => MemoriesCanonical c) (by decide) (fun _ _ _ => .reaction) hs h

/-! The meter table (R44). -/

theorem MeterTable.length_le {lo : Nat} {t : MeterTable} (h : MeterTable.wfFrom lo t = true)
    (hlo : lo ≤ 256) : t.length + lo ≤ 256 := by
  induction t generalizing lo with
  | nil => simpa using hlo
  | cons e t ih =>
    simp only [MeterTable.wfFrom, Bool.and_eq_true, decide_eq_true_eq] at h
    obtain ⟨⟨hle, hlt⟩, hrest⟩ := h
    have hlt : e.1 < 256 := hlt
    have := ih hrest (by omega)
    simp only [List.length_cons]
    omega

/-- Without code 0x00 at most 255 entries are left, so MCOUNT does not wrap (R44). -/
theorem MeterTable.length_lt {t : MeterTable} (hwf : MeterTable.wf t = true)
    (hzero : MeterTable.find t 0 = none) : t.length < 256 := by
  cases t with
  | nil => simp
  | cons e t =>
    have hcode : e.1 ≠ 0 := fun h => by simp [MeterTable.find, h] at hzero
    simp only [MeterTable.wf, MeterTable.wfFrom, Bool.and_eq_true, decide_eq_true_eq] at hwf
    obtain ⟨⟨-, hlt⟩, hrest⟩ := hwf
    have hlt : e.1 < 256 := hlt
    have := MeterTable.length_le hrest (by omega)
    simp only [List.length_cons]
    omega

theorem MetersCounted.of_frame {c d : CoreState} (hc : MetersCounted c) (h : ExchangeFrame c d) :
    MetersCounted d := by
  rw [MetersCounted, h.buf]
  exact hc

theorem MetersCounted.of_hostWrites {p : Params} {c d : CoreState} (hc : MetersCounted c)
    (h : HostWrites p c d.buf) : MetersCounted d := by
  rw [MetersCounted]
  generalize d.buf = x at h ⊢
  cases h with
  | kept n hn => exact hc
  | frame n hn f hf => exact hc
  | meters t hwf hzero =>
    have hcount : (BitVec.ofNat 8 t.length).toNat = t.length := by
      rw [BitVec.toNat_ofNat, Nat.mod_eq_of_lt (MeterTable.length_lt hwf hzero)]
    exact ⟨hwf, hzero, hcount⟩

theorem MetersCounted.wireStep {p : Params} {c d : CoreState} (hc : MetersCounted c)
    (h : WireStep p c d) : MetersCounted d := by
  cases h with
  | accept h => exact hc.of_frame (.txAccept c)
  | receive b =>
    rcases c.rxByte_frame p b with heq | ⟨-, hf⟩
    · rw [heq]; exact hc
    · have hstored : MetersCounted (c.storeRx p b) := hc
      exact hstored.of_frame hf

theorem MetersCounted.reaction {p : Params} {c d : CoreState} (hc : MetersCounted c)
    (h : Reaction p c d) : MetersCounted d := by
  cases h with
  | wire h => exact WireStep.run_keeps (fun _ _ => .wireStep) hc h
  | raise e => exact hc
  | operation hrule hidle => exact hc.of_hostWrites (hrule.writes c)
  | cancel => exact hc.of_frame (.aftCancelRule c)
  | writeReg n v =>
    obtain ⟨cfg, opnd, plen, rxlen, heq⟩ := c.writeReg_eq n v
    rw [heq]
    exact hc
  | writeMem m i b =>
    obtain ⟨pbuf, rxbuf, keybuf, heq⟩ := c.writeMem_eq p m i b
    rw [heq]
    exact hc
  | chanErr => exact hc.of_frame (.chanErr p c)
  | tick =>
    have hcount : MetersCounted (c.withElapsed (c.elapsed.tick c.status.seq)) := hc
    rcases c.tick_frame p with hf | ⟨-, id, f, -, hf⟩
    · exact hcount.of_frame hf
    · have hloaded : MetersCounted
          ((c.withElapsed (c.elapsed.tick c.status.seq)).loadStep p id f) := hcount
      exact hloaded.of_frame hf

/-- Settles O50: only METER_PARSE writes the table, and it stores no entry for code 0x00. -/
theorem stepsKeepMetersCounted : Obligations.StepsKeepMetersCounted := by
  unfold Obligations.StepsKeepMetersCounted
  intro s t hs h
  exact step_keeps (I := fun c => MetersCounted c) (by decide) (fun _ _ _ => .reaction) hs h

end Sys2Proof.Machine
end

section
/-! SUPPORT. The lock of an active CORE (R23, R73) and the ELAPSED registers (R32). -/

namespace Sys2Proof.Machine

/-- d keeps of c what no step of an active CORE changes: everything of the buffers but TXBUF and RXBUF,
and everything of the request but its id. -/
structure LockFrame (c d : CoreState) : Prop where
  cfg : d.cfg = c.cfg
  opnd : d.opnd = c.opnd
  res : d.res = c.res
  pre : d.pre = c.pre
  preValid : d.preValid = c.preValid
  req : d.req = { c.req with txid := d.req.txid }
  buf : d.buf = { c.buf with
    txbuf := d.buf.txbuf, txlen := d.buf.txlen, rxbuf := d.buf.rxbuf, rxlen := d.buf.rxlen }

theorem LockFrame.refl (c : CoreState) : LockFrame c c := ⟨rfl, rfl, rfl, rfl, rfl, rfl, rfl⟩

theorem LockFrame.trans {c d e : CoreState} (h₁ : LockFrame c d) (h₂ : LockFrame d e) :
    LockFrame c e where
  cfg := h₂.cfg.trans h₁.cfg
  opnd := h₂.opnd.trans h₁.opnd
  res := h₂.res.trans h₁.res
  pre := h₂.pre.trans h₁.pre
  preValid := h₂.preValid.trans h₁.preValid
  req := by rw [h₂.req, h₁.req]
  buf := by rw [h₂.buf, h₁.buf]

theorem ExchangeFrame.lockFrame {c d : CoreState} (h : ExchangeFrame c d) : LockFrame c d where
  cfg := h.cfg
  opnd := h.opnd
  res := h.res
  pre := h.pre
  preValid := h.preValid
  req := by rw [h.req]
  buf := by rw [h.buf]

/-- d has the same frame to transmit as c. -/
abbrev SameTx (c d : CoreState) : Prop := d.buf.txbuf = c.buf.txbuf ∧ d.buf.txlen = c.buf.txlen

theorem ExchangeFrame.sameTx {c d : CoreState} (h : ExchangeFrame c d) : SameTx c d := by
  rw [SameTx, h.buf]
  exact ⟨rfl, rfl⟩

theorem WireStep.locked {p : Params} {c d : CoreState} (h : WireStep p c d) :
    LockFrame c d ∧ SameTx c d := by
  cases h with
  | accept h =>
    have hf := ExchangeFrame.txAccept c
    exact ⟨hf.lockFrame, hf.sameTx⟩
  | receive b =>
    rcases c.rxByte_frame p b with heq | ⟨-, hf⟩
    · rw [heq]; exact ⟨.refl c, rfl, rfl⟩
    · have hstored : LockFrame c (c.storeRx p b) := ⟨rfl, rfl, rfl, rfl, rfl, rfl, rfl⟩
      exact ⟨hstored.trans hf.lockFrame, hf.sameTx⟩

theorem WireStep.run_locked {p : Params} {c d : CoreState}
    (h : Relation.ReflTransGen (WireStep p) c d) : LockFrame c d ∧ SameTx c d := by
  refine WireStep.run_keeps (I := fun d => LockFrame c d ∧ SameTx c d) ?_ ⟨.refl c, rfl, rfl⟩ h
  intro d e hd hstep
  obtain ⟨hlock, htxbuf, htxlen⟩ := hd
  obtain ⟨hlock', htxbuf', htxlen'⟩ := hstep.locked
  exact ⟨hlock.trans hlock', htxbuf'.trans htxbuf, htxlen'.trans htxlen⟩

/-- While the CORE is active, only the end of a settle wait, in PHASE WAIT, puts another frame in
TXBUF. -/
theorem Reaction.locked {p : Params} {c d : CoreState} (h : Reaction p c d) (ha : c.active = true) :
    LockFrame c d ∧ (c.status.phase ≠ .wait → SameTx c d) := by
  have of_frame {d : CoreState} (hf : ExchangeFrame c d) :
      LockFrame c d ∧ (c.status.phase ≠ .wait → SameTx c d) := ⟨hf.lockFrame, fun _ => hf.sameTx⟩
  cases h with
  | wire h => exact (WireStep.run_locked h).imp_right fun hsame _ => hsame
  | raise e => exact of_frame (.raise c e)
  | operation hrule hidle => simp [ha] at hidle
  | cancel => exact of_frame (.aftCancelRule c)
  | writeReg n v => rw [CoreState.writeReg_active ha]; exact of_frame (.refl c)
  | writeMem m i b => rw [CoreState.writeMem_active ha]; exact of_frame (.refl c)
  | chanErr => exact of_frame (.chanErr p c)
  | tick =>
    have hcount : LockFrame c (c.withElapsed (c.elapsed.tick c.status.seq)) :=
      ⟨rfl, rfl, rfl, rfl, rfl, rfl, rfl⟩
    rcases c.tick_frame p with hf | ⟨hwait, id, f, -, hf⟩
    · exact ⟨hcount.trans hf.lockFrame, fun _ => hf.sameTx⟩
    · have hloaded : LockFrame c
          ((c.withElapsed (c.elapsed.tick c.status.seq)).loadStep p id f) :=
        ⟨rfl, rfl, rfl, rfl, rfl, rfl, rfl⟩
      exact ⟨hloaded.trans hf.lockFrame, fun h => absurd hwait h⟩

/-- Settles O58: no rule of a host operation and no host write runs while the CORE is active, and the
other reactions keep what `LockFrame` lists. -/
theorem activeCoreIsLocked : Obligations.ActiveCoreIsLocked := by
  unfold Obligations.ActiveCoreIsLocked
  intro s t ha hreset h
  rcases step_reaction h with ⟨hr, -⟩ | hr
  · simp [hr] at hreset
  · obtain ⟨hlock, htx⟩ := hr.locked ha
    obtain ⟨hcfg, hopnd, hres, hpre, hpreValid, hreq, hbuf⟩ := hlock
    refine ⟨hcfg, hopnd, hres, ?_, ?_, ?_, ?_, ?_, hpre, hpreValid, ?_, ?_, ?_⟩
    · rw [hbuf]
    · rw [hbuf]
    · rw [hbuf]
    · rw [hbuf]
    · rw [hbuf]
    · rw [hreq]
    · rw [hreq]
    · exact fun hphase _ => htx (by simp [hphase])

/-! The ELAPSED registers (R32). -/

theorem satInc_toNat (t : Word32) : (satInc t).toNat = min (t.toNat + 1) (2 ^ 32 - 1) := by
  have hlt := t.isLt
  unfold satInc
  split
  · rename_i h
    rw [h, BitVec.toNat_allOnes]
    rfl
  · rename_i h
    have hne : t.toNat ≠ 2 ^ 32 - 1 := fun h' => h (BitVec.eq_of_toNat_eq h')
    rw [BitVec.toNat_add]
    simp
    omega

theorem CoreState.tick_elapsed (p : Params) (c : CoreState) :
    (c.tick p).elapsed = c.elapsed.tick c.status.seq := by
  rcases c.tick_frame p with hf | ⟨-, id, f, -, hf⟩
  · exact hf.elapsed
  · exact hf.elapsed

theorem aftStartRule_elapsed (p : Params) (t : TransferType) {c : CoreState}
    (h : c.status.seq = .idle) : (aftStartRule p t c).elapsed = .clear := by
  rcases aftStartRule_cases p t c with ⟨hne, -⟩ | ⟨-, heq⟩ | ⟨-, heq⟩
  · exact absurd h hne
  · rw [heq]; rfl
  · rw [heq]
    simp [CoreState.latchRequest]

/-- Settles O41: nothing after the count of a tick writes an ELAPSED register, and each state has its
own. -/
theorem elapsedCountsTheCurrentState : Obligations.ElapsedCountsTheCurrentState := by
  unfold Obligations.ElapsedCountsTheCurrentState
  constructor
  · intro s t rest hev h q f hqf
    cases (step_tick hev).symm.trans h
    simp only [State.withCore_core, CoreState.tick_elapsed]
    rcases hqf with ⟨rfl, rfl⟩ | ⟨rfl, rfl⟩ | ⟨rfl, rfl⟩ | ⟨rfl, rfl⟩ | ⟨rfl, rfl⟩ <;>
      cases s.core.status.seq <;> simp [Elapsed.tick, satInc_toNat]
  · intro ty s t ha hidle h
    have h : execAftStart ty s = .next t := h
    rw [execAftStart, hostOp_idle ha] at h
    cases h
    exact aftStartRule_elapsed s.params ty hidle

end Sys2Proof.Machine
end

section
/-! SUPPORT. SEQ_STATE, PHASE, OWNER and the exchange unit stay coherent (R21, R221 to R228, R241). -/

namespace Sys2Proof.Machine

/-! ControlCoherent as four kinds of states: at rest, waiting, writing and reading. -/

/-- The exchange in progress belongs to XCHG, or to a sequence in a state that exchanges (R221, R241). -/
abbrev ExchangeOwned (c : CoreState) : Prop :=
  (c.exch.xchgAct = true ∧ c.exch.owner = .standalone ∧ c.status.seq.isActive = false) ∨
  (c.exch.xchgAct = false ∧ c.exch.owner = .sequencer ∧
    (c.status.seq = .registering ∨ c.status.seq = .transferring ∨ c.status.seq = .verifyingBalance))

/-- The CORE is not active. -/
structure AtRest (c : CoreState) : Prop where
  phase : c.status.phase = .none
  rxOpen : c.exch.rxOpen = false
  xchgAct : c.exch.xchgAct = false
  seq : c.status.seq.isActive = false
  cancel : c.status.cancelPending = false

/-- A sequence waits for a settle time or for its next poll. -/
structure Waiting (c : CoreState) : Prop where
  phase : c.status.phase = .wait
  rxOpen : c.exch.rxOpen = false
  xchgAct : c.exch.xchgAct = false
  owner : c.exch.owner = .sequencer
  seq : c.status.seq = .awaitRegistrationSettle ∨ c.status.seq = .awaitTransferSettle ∨
    c.status.seq = .verifyingBalance
  cancel : c.status.cancelPending = false

/-- A frame is being written; only a sequence has a cancel pending. -/
structure Writing (c : CoreState) : Prop where
  phase : c.status.phase = .tx
  rxOpen : c.exch.rxOpen = false
  owned : ExchangeOwned c
  cancel : c.status.cancelPending = true → c.status.seq.isActive = true
  txPos : c.exch.txPos.toNat < c.buf.txlen.toNat
  rxlen : c.buf.rxlen = 0

/-- A response is being read, and RXBUF has room. -/
structure Reading (c : CoreState) : Prop where
  phase : c.status.phase = .rx
  rxOpen : c.exch.rxOpen = true
  owned : ExchangeOwned c
  cancel : c.status.cancelPending = false
  room : c.buf.rxlen.toNat < 260

namespace ExchangeOwned

theorem active {c : CoreState} (h : ExchangeOwned c) : c.active = true := by
  rcases h with ⟨hact, -, -⟩ | ⟨-, -, hseq | hseq | hseq⟩ <;>
    simp [CoreState.active, SeqState.isActive, *]

theorem standalone {c : CoreState} (h : ExchangeOwned c) (hact : c.exch.xchgAct = true) :
    c.status.seq.isActive = false ∧ c.exch.owner = .standalone := by
  rcases h with ⟨-, howner, hseq⟩ | ⟨hno, -, -⟩
  · exact ⟨hseq, howner⟩
  · simp [hact] at hno

theorem sequencer {c : CoreState} (h : ExchangeOwned c) (hseq : c.status.seq.isActive = true) :
    c.exch.owner = .sequencer := by
  rcases h with ⟨-, -, hno⟩ | ⟨-, howner, -⟩
  · simp [hseq] at hno
  · exact howner

theorem not_settling {c : CoreState} (h : ExchangeOwned c) :
    ¬ (c.status.seq = .awaitRegistrationSettle ∨ c.status.seq = .awaitTransferSettle) := by
  rintro (hs | hs) <;> simp [ExchangeOwned, hs, SeqState.isActive] at h

/-- An active CORE that does not settle has an owner for its exchange. -/
theorem of_coherent {c : CoreState} (hc : ControlCoherent c) (hn : c.status.phase ≠ .none)
    (hw : c.status.phase ≠ .wait) : ExchangeOwned c := by
  obtain ⟨-, -, hnone, hstand, hseq, -, hsettle, -, -⟩ := hc
  have hactive : c.active = true := by simpa using mt hnone.mpr hn
  have hno := mt hsettle hw
  cases hact : c.exch.xchgAct with
  | true => exact .inl ⟨hact, (hstand hact).2, (hstand hact).1⟩
  | false =>
    have hs : c.status.seq.isActive = true := by simpa [CoreState.active, hact] using hactive
    refine .inr ⟨hact, hseq hs, ?_⟩
    cases h : c.status.seq <;> simp_all [SeqState.isActive]

end ExchangeOwned

theorem AtRest.active {c : CoreState} (h : AtRest c) : c.active = false := by
  simp [CoreState.active, h.xchgAct, h.seq]

theorem AtRest.coherent {c : CoreState} (h : AtRest c) : ControlCoherent c := by
  have hidle := h.active
  obtain ⟨hphase, hopen, hact, hseq, hcancel⟩ := h
  refine ⟨by simp [*], by simp [*], by simp [*], by simp [*], by simp [*], by simp [*], ?_, by simp [*],
    by simp [*]⟩
  rintro (h | h) <;> simp [h, SeqState.isActive] at hseq

theorem Waiting.coherent {c : CoreState} (h : Waiting c) : ControlCoherent c := by
  obtain ⟨hphase, hopen, hact, howner, hseq, hcancel⟩ := h
  have hactive : c.active = true := by
    rcases hseq with h | h | h <;> simp [CoreState.active, h, SeqState.isActive]
  exact ⟨by simp [*], by simp [*], by simp [*], by simp [*], fun _ => howner, fun _ => hseq,
    fun _ => hphase, by simp [*], by simp [*]⟩

theorem Writing.coherent {c : CoreState} (h : Writing c) : ControlCoherent c := by
  have hactive := h.owned.active
  obtain ⟨hphase, hopen, howned, hcancel, hpos, hlen⟩ := h
  exact ⟨by simp [*], fun _ => ⟨hpos, hlen⟩, by simp [*], howned.standalone, howned.sequencer,
    by simp [*], fun h => absurd h howned.not_settling, fun h => ⟨hcancel h, hphase⟩, by simp [*]⟩

theorem Reading.coherent {c : CoreState} (h : Reading c) : ControlCoherent c := by
  have hactive := h.owned.active
  obtain ⟨hphase, hopen, howned, hcancel, hroom⟩ := h
  exact ⟨by simp [*], by simp [*], by simp [*], howned.standalone, howned.sequencer,
    by simp [*], fun h => absurd h howned.not_settling, by simp [*], fun _ => hroom⟩

/-- The four kinds are all coherent states, one for each PHASE. -/
theorem ControlCoherent.cases {c : CoreState} (hc : ControlCoherent c) :
    AtRest c ∨ Waiting c ∨ Writing c ∨ Reading c := by
  have howned := ExchangeOwned.of_coherent hc
  obtain ⟨hopen, htx, hnone, hstand, hseq, hwait, -, hcancel, hroom⟩ := hc
  have hno_cancel (h : c.status.phase ≠ .tx) : c.status.cancelPending = false := by
    simpa using mt (fun hp => (hcancel hp).2) h
  have hclosed (h : c.status.phase ≠ .rx) : c.exch.rxOpen = false := by
    simpa using mt hopen.mp h
  cases hphase : c.status.phase with
  | none =>
    have hidle : c.active = false := hnone.mp hphase
    simp only [CoreState.active, Bool.or_eq_false_iff] at hidle
    exact .inl ⟨hphase, hclosed (by simp [hphase]), hidle.1, hidle.2, hno_cancel (by simp [hphase])⟩
  | wait =>
    have hs := hwait hphase
    have hactive : c.status.seq.isActive = true := by rcases hs with h | h | h <;> rw [h] <;> rfl
    have hact : c.exch.xchgAct = false := by
      by_contra h
      simp [(hstand (by simpa using h)).1] at hactive
    exact .inr (.inl ⟨hphase, hclosed (by simp [hphase]), hact, hseq hactive, hs,
      hno_cancel (by simp [hphase])⟩)
  | tx =>
    obtain ⟨hpos, hlen⟩ := htx hphase
    exact .inr (.inr (.inl ⟨hphase, hclosed (by simp [hphase]),
      howned (by simp [hphase]) (by simp [hphase]), fun h => (hcancel h).1, hpos, hlen⟩))
  | rx =>
    exact .inr (.inr (.inr ⟨hphase, hopen.mpr hphase,
      howned (by simp [hphase]) (by simp [hphase]), hno_cancel (by simp [hphase]),
      hroom (hopen.mpr hphase)⟩))

section
variable {c : CoreState} (hc : ControlCoherent c)
include hc

/-- A coherent CORE that is not active is at rest. -/
theorem ControlCoherent.atRest (hidle : c.active = false) : AtRest c := by
  obtain ⟨-, -, hnone, -⟩ := id hc
  have hphase := hnone.mpr hidle
  rcases hc.cases with h | h | h | h
  · exact h
  all_goals simp [h.phase] at hphase

theorem ControlCoherent.waiting (hphase : c.status.phase = .wait) : Waiting c := by
  rcases hc.cases with h | h | h | h
  · simp [h.phase] at hphase
  · exact h
  all_goals simp [h.phase] at hphase

theorem ControlCoherent.writing (hphase : c.status.phase = .tx) : Writing c := by
  rcases hc.cases with h | h | h | h
  · simp [h.phase] at hphase
  · simp [h.phase] at hphase
  · exact h
  · simp [h.phase] at hphase

theorem ControlCoherent.reading (hopen : c.exch.rxOpen = true) : Reading c := by
  rcases hc.cases with h | h | h | h
  · simp [h.rxOpen] at hopen
  · simp [h.rxOpen] at hopen
  · simp [h.rxOpen] at hopen
  · exact h

end

/-! How each operation moves between the four kinds. -/

/-- FINISH and FAIL leave a sequence at rest (R260, R261). -/
theorem AtRest.finishSeq {c : CoreState} (hact : c.exch.xchgAct = false) {q : SeqState}
    (hq : q.isActive = false) : AtRest (c.finishSeq q) :=
  ⟨rfl, rfl, hact, hq, rfl⟩

theorem AtRest.fail {c : CoreState} (hact : c.exch.xchgAct = false) (k : ErrCode) :
    AtRest (c.fail k) := ⟨rfl, rfl, hact, rfl, rfl⟩

theorem ControlCoherent.endWrite {c : CoreState} (howned : ExchangeOwned c)
    (hcancel : c.status.cancelPending = true → c.status.seq.isActive = true)
    (hroom : c.buf.rxlen.toNat < 260) : ControlCoherent c.endWrite := by
  rcases c.endWrite_cases with ⟨howner, -, heq⟩ | ⟨hgo, heq⟩ <;> rw [heq]
  · rcases howned with ⟨-, h, -⟩ | ⟨hact, -, -⟩
    · simp [howner] at h
    · exact (AtRest.fail hact _).coherent
  · have hnone : c.status.cancelPending = false := by
      rcases hgo with hs | h
      · by_contra h
        have := howned.sequencer (hcancel (by simpa using h))
        simp [hs] at this
      · exact h
    exact Reading.coherent ⟨rfl, rfl, howned, hnone, hroom⟩

theorem ControlCoherent.startExchange {c : CoreState} {w : Owner}
    (howned : ExchangeOwned (c.withExch { c.exch with owner := w, txPos := 0 }))
    (hopen : c.exch.rxOpen = false) (hcancel : c.status.cancelPending = false) :
    ControlCoherent (c.startExchange w) := by
  rcases c.startExchange_cases w with ⟨-, heq⟩ | ⟨hlen, heq⟩ <;> rw [heq]
  · exact ControlCoherent.endWrite howned (by simp [hcancel]) (by simp)
  · refine Writing.coherent ⟨rfl, hopen, howned, by simp [hcancel], ?_, rfl⟩
    simpa [Nat.pos_iff_ne_zero, ← BitVec.toNat_inj] using hlen

theorem Waiting.startWait {c : CoreState} (hopen : c.exch.rxOpen = false)
    (hact : c.exch.xchgAct = false) (howner : c.exch.owner = .sequencer)
    (hseq : c.status.seq = .awaitRegistrationSettle ∨ c.status.seq = .awaitTransferSettle ∨
      c.status.seq = .verifyingBalance)
    (hcancel : c.status.cancelPending = false) : Waiting c.startWait :=
  ⟨rfl, hopen, hact, howner, hseq, hcancel⟩

/-- The sequencer's exchange is over, with the read attempt closed, and no cancel is pending. -/
structure SeqExchangeOver (c : CoreState) : Prop where
  rxOpen : c.exch.rxOpen = false
  xchgAct : c.exch.xchgAct = false
  owner : c.exch.owner = .sequencer
  seq : c.status.seq = .registering ∨ c.status.seq = .transferring ∨ c.status.seq = .verifyingBalance
  cancel : c.status.cancelPending = false

theorem SeqExchangeOver.of_same {c d : CoreState} (h : SeqExchangeOver c)
    (hstatus : d.status = c.status) (hexch : d.exch = c.exch) : SeqExchangeOver d := by
  obtain ⟨hopen, hact, howner, hseq, hcancel⟩ := h
  exact ⟨by rw [hexch, hopen], by rw [hexch, hact], by rw [hexch, howner], by rwa [hstatus],
    by rw [hstatus, hcancel]⟩

theorem balanceBody_control {p : Params} {c d : CoreState} (h : balanceBody p c = .ok d) :
    d.status = c.status ∧ d.exch = c.exch := by
  obtain ⟨b, -, -, rfl⟩ := balanceBody_ok h
  exact ⟨rfl, rfl⟩

theorem SeqExchangeOver.pollDecide {c : CoreState} (h : SeqExchangeOver c)
    (hseq : c.status.seq = .verifyingBalance) (ok : Bool) : ControlCoherent (c.pollDecide ok) := by
  rcases c.pollDecide_cases ok with ⟨-, -, heq⟩ | ⟨-, -, heq⟩ | ⟨-, -, heq⟩ <;> rw [heq]
  · exact (AtRest.finishSeq h.xchgAct rfl).coherent
  · exact (AtRest.finishSeq h.xchgAct rfl).coherent
  · exact (Waiting.startWait h.rxOpen h.xchgAct h.owner (.inr (.inr hseq)) h.cancel).coherent

theorem SeqExchangeOver.pollEnd {c : CoreState} (h : SeqExchangeOver c)
    (hseq : c.status.seq = .verifyingBalance) (p : Params) (r : ExchangeOutcome) :
    ControlCoherent (c.pollEnd p r) := by
  have hcount : SeqExchangeOver
      (c.withSeqInfo { c.seqInfo with pollsDone := c.seqInfo.pollsDone + 1 }) := h.of_same rfl rfl
  rcases c.pollEnd_cases p r with ⟨d, -, hbody, heq⟩ | ⟨-, heq⟩ <;> rw [heq]
  · obtain ⟨hstatus, hexch⟩ := balanceBody_control hbody
    exact (hcount.of_same hstatus hexch).pollDecide (hstatus ▸ hseq) true
  · exact hcount.pollDecide hseq false

theorem SeqExchangeOver.settle {c : CoreState} (h : SeqExchangeOver c)
    (hseq : c.status.seq ≠ .verifyingBalance) : ControlCoherent c.settle := by
  have hsettled : c.status.seq.settled = .awaitRegistrationSettle ∨
      c.status.seq.settled = .awaitTransferSettle := by
    rcases h.seq with hs | hs | hs
    · exact .inl (by rw [hs]; rfl)
    · exact .inr (by rw [hs]; rfl)
    · exact absurd hs hseq
  exact Waiting.coherent ⟨rfl, h.rxOpen, h.xchgAct, h.owner, hsettled.imp_right .inl, h.cancel⟩

theorem SeqExchangeOver.seqExchangeEnd {c : CoreState} (h : SeqExchangeOver c) (p : Params)
    (r : ExchangeOutcome) : ControlCoherent (c.seqExchangeEnd p r) := by
  rcases c.seqExchangeEnd_cases p r with
    ⟨-, heq⟩ | ⟨-, hseq, heq⟩ | ⟨hseq, -, -, heq⟩ | ⟨-, hseq, -, -, heq⟩ | ⟨-, hseq, -, -, heq⟩ <;>
    rw [heq]
  · exact (AtRest.fail h.xchgAct _).coherent
  · exact h.pollEnd hseq p r
  · exact settle (h.of_same (by simp) (by simp)) (by simpa using hseq)
  · exact .startExchange (.inr ⟨h.xchgAct, rfl, h.seq⟩) h.rxOpen h.cancel
  · exact settle (h.of_same (by simp) (by simp)) (by simpa using hseq)

/-- END_READ leads to a coherent state; a channel error may find a cancel pending, which the failure of
the sequence clears (R226, R227). -/
theorem ControlCoherent.endRead {c : CoreState} (howned : ExchangeOwned c) (p : Params)
    (r : ExchangeOutcome)
    (hcancel : c.status.cancelPending = true → c.status.seq.isActive = true ∧ r = .transport) :
    ControlCoherent (c.endRead p r) := by
  rcases c.endRead_cases p r with ⟨howner, heq⟩ | ⟨howner, heq⟩ <;> rw [heq] <;>
    rcases howned with ⟨hact, how, hseq⟩ | ⟨hact, how, hseq⟩
  · have hnone : c.status.cancelPending = false := by
      by_contra h
      simp [(hcancel (by simpa using h)).1] at hseq
    exact AtRest.coherent ⟨rfl, rfl, rfl, hseq, hnone⟩
  · simp [howner] at how
  · simp [howner] at how
  · by_cases hr : r = .transport
    · subst hr
      exact (AtRest.fail hact _).coherent
    · have hnone : c.status.cancelPending = false := by
        by_contra h
        exact hr (hcancel (by simpa using h)).2
      refine SeqExchangeOver.seqExchangeEnd ?_ p r
      exact ⟨rfl, hact, how, hseq, hnone⟩

/-! The reactions, one by one. -/

theorem ControlCoherent.txAccept {c : CoreState} (hc : ControlCoherent c)
    (h : c.offering = true) : ControlCoherent c.txAccept := by
  simp only [CoreState.offering, Bool.and_eq_true, beq_iff_eq] at h
  obtain ⟨hphase, -⟩ := h
  obtain ⟨-, hopen, howned, hcancel, hlt, hlen⟩ := hc.writing hphase
  simp only [CoreState.txAccept]
  split
  · exact .endWrite howned hcancel (by simp [hlen])
  · rename_i hne
    have hmax := c.buf.txlen.isLt
    have hnext : (c.exch.txPos + 1).toNat = c.exch.txPos.toNat + 1 := by
      rw [BitVec.toNat_add]; simp; omega
    have hne : (c.exch.txPos + 1).toNat ≠ c.buf.txlen.toNat := fun h =>
      hne (BitVec.eq_of_toNat_eq h)
    have hpos : (c.exch.txPos + 1).toNat < c.buf.txlen.toNat := by omega
    exact Writing.coherent ⟨hphase, hopen, howned, hcancel, hpos, hlen⟩

/-- With room for it, a stored byte counts one (R222). -/
theorem CoreState.storeRx_rxlen (p : Params) {c : CoreState} (hroom : c.buf.rxlen.toNat < 260)
    (b : Byte) : (c.storeRx p b).buf.rxlen.toNat = c.buf.rxlen.toNat + 1 := by
  rw [CoreState.storeRx_eq, CoreState.withBuf_buf, BitVec.toNat_add]
  simp
  omega

theorem ControlCoherent.rxByte {c : CoreState} (hc : ControlCoherent c) (p : Params) (b : Byte) :
    ControlCoherent (c.rxByte p b) := by
  rcases c.rxByte_cases p b with ⟨-, heq⟩ | ⟨hopen, heq, -⟩ | ⟨hopen, heq, -, hfull⟩ <;> rw [heq]
  · exact hc
  · obtain ⟨-, -, howned, hcancel, -⟩ := hc.reading hopen
    exact ControlCoherent.endRead (c := c.storeRx p b) howned p _ (by simp [hcancel])
  · obtain ⟨hphase, hopen, howned, hcancel, hroom⟩ := hc.reading hopen
    refine Reading.coherent ⟨hphase, hopen, howned, hcancel, ?_⟩
    have hcount := CoreState.storeRx_rxlen p hroom b
    simp only [Fixed.val_eq, Config.frameMax] at hfull
    omega

theorem ControlCoherent.wireStep {p : Params} {c d : CoreState} (hc : ControlCoherent c)
    (h : WireStep p c d) : ControlCoherent d := by
  cases h with
  | accept h => exact hc.txAccept h
  | receive b => exact hc.rxByte p b

theorem ControlCoherent.chanErr {c : CoreState} (hc : ControlCoherent c) (p : Params) :
    ControlCoherent (c.chanErr p) := by
  unfold CoreState.chanErr
  split
  · rename_i h
    rcases h with hphase | hopen
    · have hk := hc.writing hphase
      exact .endRead hk.owned p _ fun h => ⟨hk.cancel h, rfl⟩
    · have hk := hc.reading hopen
      exact .endRead hk.owned p _ (by simp [hk.cancel])
  · exact hc

section
variable {c : CoreState} (hopen : c.exch.rxOpen = false) (hact : c.exch.xchgAct = false)
  (hcancel : c.status.cancelPending = false)
include hopen hact hcancel

theorem ControlCoherent.enterTransferring (p : Params) :
    ControlCoherent (c.enterTransferring p) := by
  simp only [CoreState.enterTransferring]
  apply ControlCoherent.startExchange <;> simp [ExchangeOwned, hopen, hact, hcancel]

theorem ControlCoherent.enterVerify (p : Params) : ControlCoherent (c.enterVerify p) := by
  simp only [CoreState.enterVerify]
  apply ControlCoherent.startExchange <;> simp [ExchangeOwned, hopen, hact, hcancel]

end

/-- The end of a settle wait starts the next step's exchange, the end of a poll wait the next poll's
(R242, R256, R257). -/
theorem ControlCoherent.tickWait {c : CoreState} (hc : ControlCoherent c) (p : Params)
    (hphase : c.status.phase = .wait) : ControlCoherent (c.tickWait p) := by
  obtain ⟨hphase, hopen, hact, howner, hseq, hcancel⟩ := hc.waiting hphase
  rcases c.tickWait_cases p with ⟨-, -, heq⟩ | ⟨-, -, heq⟩ | ⟨hverify, -, heq⟩ | heq <;> rw [heq]
  · exact ControlCoherent.enterTransferring (c := c.tickTimer) hopen hact hcancel p
  · exact ControlCoherent.enterVerify (c := c.tickTimer) hopen hact hcancel p
  · exact .startExchange (.inr ⟨hact, rfl, .inr (.inr hverify)⟩) hopen hcancel
  · exact Waiting.coherent ⟨hphase, hopen, hact, howner, hseq, hcancel⟩

theorem ControlCoherent.tick {c : CoreState} (hc : ControlCoherent c) (p : Params) :
    ControlCoherent (c.tick p) := by
  have hcount : ControlCoherent (c.withElapsed (c.elapsed.tick c.status.seq)) := hc
  rcases c.tick_cases p with
    ⟨hopen, -, heq⟩ | ⟨hopen, -, heq⟩ | ⟨-, hwait, heq⟩ | ⟨-, -, heq⟩ <;> rw [heq]
  · obtain ⟨hphase, hopen, howned, hcancel, hroom⟩ := hcount.reading hopen
    exact Reading.coherent ⟨hphase, hopen, howned, hcancel, hroom⟩
  · obtain ⟨-, -, howned, hcancel, -⟩ := hc.reading hopen
    refine .endRead ?_ p _ ?_
    · exact howned
    · simp [hcancel]
  · exact hcount.tickWait p hwait
  · exact hcount

theorem ControlCoherent.aftCancelRule {c : CoreState} (hc : ControlCoherent c) :
    ControlCoherent (aftCancelRule c) := by
  have herr : ControlCoherent (c.raise .ok) := hc
  rcases aftCancelRule_cases c with ⟨-, heq⟩ | ⟨hseq, hphase, heq⟩ | ⟨hseq, -, heq⟩ <;> rw [heq]
  · exact herr
  · obtain ⟨hphase, hopen, howned, -, hpos, hlen⟩ := herr.writing hphase
    exact Writing.coherent ⟨hphase, hopen, howned, fun _ => hseq, hpos, hlen⟩
  · have hact : c.exch.xchgAct = false := by
      obtain ⟨-, -, -, hstand, -⟩ := hc
      by_contra h
      simp [(hstand (by simpa using h)).1] at hseq
    exact (AtRest.fail hact _).coherent

theorem AtRest.of_same {c d : CoreState} (h : AtRest c) (hseq : d.status.seq = c.status.seq)
    (hphase : d.status.phase = c.status.phase)
    (hcancel : d.status.cancelPending = c.status.cancelPending) (hexch : d.exch = c.exch) :
    AtRest d := by
  obtain ⟨hphase', hopen, hact, hseq', hcancel'⟩ := h
  exact ⟨by rw [hphase, hphase'], by rw [hexch, hopen], by rw [hexch, hact], by rw [hseq, hseq'],
    by rw [hcancel, hcancel']⟩

theorem AtRest.raise {c : CoreState} (h : AtRest c) (e : ErrCode) : AtRest (c.raise e) :=
  ⟨h.phase, h.rxOpen, h.xchgAct, h.seq, h.cancel⟩

theorem AtRest.setMeters {c : CoreState} (h : AtRest c) (t : MeterTable) (cut : Bool) :
    AtRest (c.setMeters t cut) := ⟨h.phase, h.rxOpen, h.xchgAct, h.seq, h.cancel⟩

/-- The rules that end at once leave the CORE at rest; XCHG and AFT_START begin an exchange (R221). -/
theorem AtRest.operation {p : Params} {rule : CoreState → CoreState} (hrule : HostRule p rule)
    {c : CoreState} (h : AtRest c) : ControlCoherent (rule c) := by
  have hraise {d : CoreState} (hstatus : d.status = c.status) (hexch : d.exch = c.exch)
      (e : ErrCode) : ControlCoherent (d.raise e) :=
    ((h.of_same (by rw [hstatus]) (by rw [hstatus]) (by rw [hstatus]) hexch).raise e).coherent
  have hfinish {d : CoreState} (hstatus : d.status = c.status) (hexch : d.exch = c.exch) :
      ControlCoherent d.finish := hraise hstatus hexch .ok
  cases hrule with
  | crc16 src => exact hfinish (by simp) (by simp)
  | bcdEnc n =>
    unfold bcdEncRule
    split
    · exact hraise rfl rfl _
    · exact hfinish (by simp) (by simp)
  | bcdDec n =>
    unfold bcdDecRule
    split
    · exact hraise rfl rfl _
    · exact hfinish (by simp) (by simp)
  | frameBuild command => exact hfinish (by simp) (by simp)
  | frameParse =>
    unfold frameParseRule
    split
    · exact hfinish (by simp) (by simp)
    · exact hraise rfl rfl _
  | meterParse =>
    unfold meterParseRule
    dsimp only
    split
    · exact ((h.setMeters _ _).raise _).coherent
    · exact ((h.setMeters _ _).raise .ok).coherent
  | buildReg => exact hfinish (by simp) (by simp)
  | buildXfer t =>
    unfold buildXferRule
    split
    · exact hraise rfl rfl _
    · exact hfinish (by simp) (by simp)
  | buildBalq => exact hfinish (by simp) (by simp)
  | balParse =>
    unfold balParseRule
    split
    · rename_i d hd
      obtain ⟨hstatus, hexch⟩ := balanceBody_control hd
      exact hfinish hstatus hexch
    · exact hraise rfl rfl _
  | xchg => exact .startExchange (.inl ⟨rfl, rfl, h.seq⟩) h.rxOpen h.cancel
  | aftStart t =>
    rcases aftStartRule_cases p t c with ⟨-, heq⟩ | ⟨-, heq⟩ | ⟨-, heq⟩ <;> rw [heq]
    · exact hraise rfl rfl _
    · exact AtRest.coherent ⟨h.phase, h.rxOpen, h.xchgAct, rfl, rfl⟩
    · exact .startExchange (.inr (by simp [h.xchgAct])) (by simp [h.rxOpen])
        (by simp [CoreState.latchRequest])
  | aftClear =>
    unfold aftClearRule
    split
    · exact AtRest.coherent ⟨h.phase, h.rxOpen, h.xchgAct, rfl, h.cancel⟩
    · exact hfinish rfl rfl

theorem ControlCoherent.reaction {p : Params} {c d : CoreState} (hc : ControlCoherent c)
    (h : Reaction p c d) : ControlCoherent d := by
  cases h with
  | wire h => exact WireStep.run_keeps (fun _ _ => .wireStep) hc h
  | raise e => exact hc
  | operation hrule hidle => exact (hc.atRest hidle).operation hrule
  | cancel => exact hc.aftCancelRule
  | writeReg n v =>
    cases ha : c.active with
    | true => rw [CoreState.writeReg_active ha]; exact hc
    | false =>
      obtain ⟨cfg, opnd, plen, rxlen, heq⟩ := c.writeReg_eq n v
      rw [heq]
      have hrest : AtRest (((c.withCfg cfg).withOpnd opnd).withBuf
          { c.buf with plen := plen, rxlen := rxlen }) :=
        (hc.atRest ha).of_same rfl rfl rfl rfl
      exact hrest.coherent
  | writeMem m i b =>
    obtain ⟨pbuf, rxbuf, keybuf, heq⟩ := c.writeMem_eq p m i b
    rw [heq]
    exact hc
  | chanErr => exact hc.chanErr p
  | tick => exact hc.tick p

/-- Settles O51: each reaction of the CORE moves between the four kinds of coherent states. -/
theorem stepsKeepControlCoherent : Obligations.StepsKeepControlCoherent := by
  unfold Obligations.StepsKeepControlCoherent
  intro s t hs h
  exact step_keeps (I := fun c => ControlCoherent c) (by decide) (fun _ _ _ => .reaction) hs h

end Sys2Proof.Machine
end

section
/-! SUPPORT. The WARL registers, RXLEN and TXLEN stay in their ranges (R22, R25). -/

namespace Sys2Proof.Machine

theorem RegistersLegal.of_frame {c d : CoreState} (hc : RegistersLegal c) (h : ExchangeFrame c d) :
    RegistersLegal d := by
  obtain ⟨hposLen, hpolls, hmcap, hrxlen, htxlen⟩ := hc
  have hsame : d.buf.txlen = c.buf.txlen := by rw [h.buf]
  exact ⟨by rwa [h.cfg], by rwa [h.cfg], by rwa [h.cfg], h.rxlen_le.trans hrxlen, by rwa [hsame]⟩

theorem RegistersLegal.of_hostWrites {p : Params} {c d : CoreState} (hc : RegistersLegal c)
    (hcfg : d.cfg = c.cfg) (h : HostWrites p c d.buf) : RegistersLegal d := by
  obtain ⟨hposLen, hpolls, hmcap, hrxlen, htxlen⟩ := hc
  rw [RegistersLegal, hcfg]
  generalize d.buf = x at h ⊢
  cases h with
  | kept n hn => exact ⟨hposLen, hpolls, hmcap, hn.trans hrxlen, htxlen⟩
  | frame n hn f hf =>
    exact ⟨hposLen, hpolls, hmcap, hn.trans hrxlen, (c.loadTx_txlen p hf).trans_le hf⟩
  | meters t hwf hzero => exact ⟨hposLen, hpolls, hmcap, hrxlen, htxlen⟩

theorem RegistersLegal.loadStep {c : CoreState} (hc : RegistersLegal c) (p : Params) (id : Word32)
    {f : List Byte} (hf : f.length ≤ 260) : RegistersLegal (c.loadStep p id f) := by
  obtain ⟨hposLen, hpolls, hmcap, hrxlen, -⟩ := hc
  exact ⟨hposLen, hpolls, hmcap, hrxlen, (CoreState.loadTx_txlen p _ hf).trans_le hf⟩

/-- A host write stores legal values only (R25). -/
theorem RegistersLegal.store {c : CoreState} (hc : RegistersLegal c) (r : Reg) (v : Word64) :
    RegistersLegal (r.store c v) := by
  have ⟨hposLen, hpolls, hmcap, hrxlen, htxlen⟩ := hc
  have hcount : 1 ≤ (legalCount v).toNat := by rw [legalCount_toNat]; split <;> omega
  cases r with
  | cfgPoslen =>
    exact ⟨by simp [Reg.store, legalPosLen_toNat], hpolls, hmcap, hrxlen, htxlen⟩
  | cfgPolls => exact ⟨hposLen, hcount, hmcap, hrxlen, htxlen⟩
  | cfgMcap => exact ⟨hposLen, hpolls, hcount, hrxlen, htxlen⟩
  | rxlen => exact ⟨hposLen, hpolls, hmcap, by simp [Reg.store, legalRxlen_toNat], htxlen⟩
  | _ => exact hc

theorem RegistersLegal.writeReg {c : CoreState} (hc : RegistersLegal c) (n : BitVec 6) (v : Word64) :
    RegistersLegal (c.writeReg n v) := by
  unfold CoreState.writeReg
  split
  · exact hc
  · split
    · exact hc.store _ v
    · exact hc

theorem RegistersLegal.wireStep {p : Params} {c d : CoreState} (hc : ControlCoherent c)
    (hl : RegistersLegal c) (h : WireStep p c d) : RegistersLegal d := by
  cases h with
  | accept h => exact hl.of_frame (.txAccept c)
  | receive b =>
    rcases c.rxByte_frame p b with heq | ⟨hopen, hf⟩
    · rw [heq]; exact hl
    · obtain ⟨hposLen, hpolls, hmcap, -, htxlen⟩ := hl
      have hcount := CoreState.storeRx_rxlen p (hc.reading hopen).room b
      have hroom := (hc.reading hopen).room
      have hstored : RegistersLegal (c.storeRx p b) :=
        ⟨hposLen, hpolls, hmcap, by omega, htxlen⟩
      exact hstored.of_frame hf

theorem RegistersLegal.reaction {p : Params} {c d : CoreState} (hc : ControlCoherent c)
    (hl : RegistersLegal c) (h : Reaction p c d) : RegistersLegal d := by
  cases h with
  | wire h =>
    exact (WireStep.run_keeps (I := fun c => ControlCoherent c ∧ RegistersLegal c)
      (fun _ _ hk hstep => ⟨hk.1.wireStep hstep, wireStep hk.1 hk.2 hstep⟩) ⟨hc, hl⟩ h).2
  | raise e => exact hl
  | operation hrule hidle => exact hl.of_hostWrites (hrule.cfg_eq c) (hrule.writes c)
  | cancel => exact hl.of_frame (.aftCancelRule c)
  | writeReg n v => exact hl.writeReg n v
  | writeMem m i b =>
    obtain ⟨pbuf, rxbuf, keybuf, heq⟩ := c.writeMem_eq p m i b
    rw [heq]
    exact hl
  | chanErr => exact hl.of_frame (.chanErr p c)
  | tick =>
    have hcount : RegistersLegal (c.withElapsed (c.elapsed.tick c.status.seq)) := hl
    rcases c.tick_frame p with hf | ⟨-, id, f, hlen, hf⟩
    · exact hcount.of_frame hf
    · exact (hcount.loadStep p id hlen).of_frame hf

/-- Settles O52: coherence gives an open read attempt room for the byte it stores, and no frame that the
CORE builds is longer than 260 bytes. -/
theorem stepsKeepRegistersLegal : Obligations.StepsKeepRegistersLegal := by
  unfold Obligations.StepsKeepRegistersLegal
  intro s t hc hl h
  have hkeep : ControlCoherent t.core ∧ RegistersLegal t.core :=
    step_keeps (I := fun c => ControlCoherent c ∧ RegistersLegal c) (by decide)
      (fun _ _ _ hk hr => ⟨hk.1.reaction hr, hk.2.reaction hk.1 hr⟩) ⟨hc, hl⟩ h
  exact hkeep.2

end Sys2Proof.Machine
end

section
/-! SUPPORT. Host reads (R67, R230). -/

namespace Sys2Proof.Machine

/-- Settles O45: for either kind of read, the law of its step names the whole next state, which is the
rest of the schedule and the answer. -/
theorem readsHaveNoSideEffect : Obligations.ReadsHaveNoSideEffect := by
  unfold Obligations.ReadsHaveNoSideEffect
  constructor
  · intro s n rest hev
    exact step_read hev
  · intro s m i rest hev
    exact step_readB hev

end Sys2Proof.Machine
end

section
/-! SUPPORT. Fields of a byte string: the bytes `[i, j)` of a layout written as a concatenation, and a byte
string put together again from its fields. -/

namespace Sys2Proof

/-! A field of a concatenation. -/

theorem slice_all {bs : List Byte} {j : Nat} (h : bs.length = j) : slice bs 0 j = bs := by
  simp [slice, ← h]

/-- The field b of a layout, between what stands before it and what follows. -/
theorem slice_of_append {bs a b c : List Byte} {i j : Nat} (hbs : bs = a ++ (b ++ c))
    (hi : a.length = i) (hj : i + b.length = j) : slice bs i j = b := by
  subst hbs hi hj
  rw [slice, ← List.append_assoc, ← List.length_append, List.take_left, List.drop_left]

theorem byteAt_of_append {bs a c : List Byte} {b : Byte} {i : Nat} (hbs : bs = a ++ b :: c)
    (hi : a.length = i) : byteAt bs i = b := by
  subst hbs hi
  simp [byteAt]

/-! A byte string from its fields. -/

theorem slice_length {bs : List Byte} {j : Nat} (h : j ≤ bs.length) (i : Nat) :
    (slice bs i j).length = j - i := by
  simp [slice, Nat.min_eq_left h]

theorem slice_append_slice (bs : List Byte) {i j k : Nat} (hij : i ≤ j) (hjk : j ≤ k) :
    slice bs i j ++ slice bs j k = slice bs i k := by
  have hdrop : slice bs j k = (slice bs i k).drop (j - i) := by
    rw [slice, slice, List.drop_drop, Nat.add_sub_cancel' hij]
  have htake : slice bs i j = (slice bs i k).take (j - i) := by
    rw [slice, slice, List.take_drop, Nat.add_sub_cancel' hij, List.take_take, Nat.min_eq_left hjk]
  rw [hdrop, htake, List.take_append_drop]

theorem slice_append_drop (bs : List Byte) {i j : Nat} (hij : i ≤ j) :
    slice bs i j ++ bs.drop j = bs.drop i := by
  have h := slice_append_slice bs hij (Nat.le_max_left j bs.length)
  simpa [slice, List.take_of_length_le (Nat.le_max_right j bs.length)] using h

@[simp] theorem slice_self (bs : List Byte) (i : Nat) : slice bs i i = [] := by
  simp [slice]

theorem slice_eq_cons {bs : List Byte} {i j : Nat} (hij : i < j) (hj : j ≤ bs.length) :
    slice bs i j = byteAt bs i :: slice bs (i + 1) j := by
  have hi : i < (bs.take j).length := by rw [List.length_take]; omega
  rw [slice, List.drop_eq_getElem_cons hi, List.getElem_take, byteAt,
    List.getD_eq_getElem _ _ (by omega), slice]

theorem slice_one {bs : List Byte} {i : Nat} (h : i < bs.length) :
    slice bs i (i + 1) = [byteAt bs i] := by
  rw [slice_eq_cons (by omega) (by omega), slice_self]

theorem slice_two {bs : List Byte} {i : Nat} (h : i + 1 < bs.length) :
    slice bs i (i + 2) = [byteAt bs i, byteAt bs (i + 1)] := by
  rw [slice_eq_cons (by omega) (by omega), slice_one h]

theorem slice_three {bs : List Byte} {i : Nat} (h : i + 2 < bs.length) :
    slice bs i (i + 3) = [byteAt bs i, byteAt bs (i + 1), byteAt bs (i + 2)] := by
  rw [slice_eq_cons (by omega) (by omega), slice_two h]

end Sys2Proof
end

section
/-! SUPPORT. The digit codec in both directions (R100, R102, R103), and the transaction id field (R185). -/

namespace Sys2Proof

/-! Digits and the number they spell. -/

theorem ofDigits_append_singleton (ds : List Nat) (d : Nat) :
    ofDigits (ds ++ [d]) = ofDigits ds * 10 + d := by
  simp [ofDigits]

theorem digits_lt_ten (v : Nat) : ∀ d ∈ digits v, d < 10 := by
  induction v using Nat.strong_induction_on with
  | _ v ih =>
    by_cases h : v < 10
    · simpa [digits_small h] using h
    · have hrest := ih (v / 10) (by omega)
      simp only [digits_step (Nat.le_of_not_lt h), List.mem_append, List.mem_singleton]
      rintro d (hd | rfl)
      · exact hrest d hd
      · omega

theorem ofDigits_digits (v : Nat) : ofDigits (digits v) = v := by
  induction v using Nat.strong_induction_on with
  | _ v ih =>
    by_cases h : v < 10
    · simp [digits_small h, ofDigits]
    · rw [digits_step (Nat.le_of_not_lt h), ofDigits_append_singleton, ih (v / 10) (by omega)]
      omega

theorem ofDigits_replicate_zero (k : Nat) : ofDigits (List.replicate k 0) = 0 := by
  induction k with
  | zero => rfl
  | succ k ih => rw [List.replicate_succ', ofDigits_append_singleton, ih]

theorem ofDigits_lt {ds : List Nat} (h : ∀ d ∈ ds, d < 10) : ofDigits ds < 10 ^ ds.length := by
  induction ds using List.reverseRecOn with
  | nil => simp [ofDigits]
  | append_singleton ds d ih =>
    have hds := ih fun e he => h e (by simp [he])
    have hd := h d (by simp)
    rw [ofDigits_append_singleton, List.length_append, List.length_singleton, Nat.pow_succ]
    omega

/-- The digits of v, padded on the left with zeros to k digits (R100). -/
def paddedDigits (v k : Nat) : List Nat := List.replicate (k - (digits v).length) 0 ++ digits v

theorem bcdBytes_eq (v n : Nat) : bcdBytes v n = packDigits (paddedDigits v (2 * n)) := rfl

theorem ofDigits_zeros_append (k : Nat) (ds : List Nat) :
    ofDigits (List.replicate k 0 ++ ds) = ofDigits ds := by
  rw [ofDigits, List.foldl_append]
  exact congrArg (fun v => ds.foldl (fun v d => v * 10 + d) v) (ofDigits_replicate_zero k)

theorem ofDigits_paddedDigits (v k : Nat) : ofDigits (paddedDigits v k) = v := by
  rw [paddedDigits, ofDigits_zeros_append, ofDigits_digits]

theorem paddedDigits_lt_ten (v k : Nat) : ∀ d ∈ paddedDigits v k, d < 10 := by
  intro d hd
  rcases List.mem_append.mp hd with hd | hd
  · rw [List.eq_of_mem_replicate hd]; omega
  · exact digits_lt_ten v d hd

theorem paddedDigits_length {v k : Nat} (h : (digits v).length ≤ k) :
    (paddedDigits v k).length = k := by
  simp only [paddedDigits, List.length_append, List.length_replicate]; omega

/-- One more digit: it is the last one, and what stands before is padded to one digit less. -/
theorem paddedDigits_step {d : Nat} (hd : d < 10) (v k : Nat) :
    paddedDigits (v * 10 + d) (k + 2) = paddedDigits v (k + 1) ++ [d] := by
  rcases Nat.eq_zero_or_pos v with rfl | hv
  · simp [paddedDigits, digits_small hd, digits_small, ← List.replicate_succ']
  · have hstep : digits (v * 10 + d) = digits v ++ [d] := by
      rw [digits_step (by omega), show (v * 10 + d) / 10 = v by omega,
        show (v * 10 + d) % 10 = d by omega]
    simp [paddedDigits, hstep]

/-- Padded to its length, a nonempty digit string is recovered from the number it spells. -/
theorem paddedDigits_ofDigits {ds : List Nat} (hne : ds ≠ []) (h : ∀ d ∈ ds, d < 10) :
    paddedDigits (ofDigits ds) ds.length = ds := by
  induction ds using List.reverseRecOn with
  | nil => exact absurd rfl hne
  | append_singleton ds d ih =>
    have hd := h d (by simp)
    match ds, ih with
    | [], _ => simp [ofDigits, paddedDigits, digits_small hd]
    | e :: es, ih =>
      have hrest := ih (by simp) fun x hx => h x (List.mem_append_left _ hx)
      rw [ofDigits_append_singleton, List.length_append, List.length_singleton, List.length_cons,
        paddedDigits_step hd]
      exact congrArg (· ++ [d]) hrest

/-! Bytes of two digits (R100, R103). -/

theorem digitPair_nibbles {hi lo : Nat} (hhi : hi < 16) (hlo : lo < 16) :
    ((digitPair hi lo).extractLsb' 4 4).toNat = hi ∧ ((digitPair hi lo).extractLsb' 0 4).toNat = lo := by
  have hpair : (digitPair hi lo).toNat = hi * 16 + lo := by
    simp only [digitPair, BitVec.toNat_append, BitVec.toNat_ofNat]
    rw [Nat.shiftLeft_eq, Nat.mod_eq_of_lt hlo, Nat.mod_eq_of_lt hhi]
    rw [show 2 ^ 4 = 16 by rfl, ← Nat.mul_comm 16, ← Nat.two_pow_add_eq_or_of_lt (i := 4) hlo]
  simp only [BitVec.extractLsb'_toNat, hpair, Nat.shiftRight_eq_div_pow]
  omega

theorem digitsOfByte_digitPair {hi lo : Nat} (hhi : hi < 10) (hlo : lo < 10) :
    digitsOfByte (digitPair hi lo) = some (hi * 10 + lo) := by
  obtain ⟨h1, h2⟩ := digitPair_nibbles (hi := hi) (lo := lo) (by omega) (by omega)
  simp only [digitsOfByte, h1, h2]
  rw [if_pos (by omega)]

theorem digitPair_of_nibbles (b : Byte) :
    digitPair (b.extractLsb' 4 4).toNat (b.extractLsb' 0 4).toNat = b := by
  simp only [digitPair, BitVec.ofNat_toNat, BitVec.setWidth_eq]
  exact BitVec.extractLsb'_append_extractLsb'_eq_extractLsb' (by rfl) |>.trans (by simp)

/-- A byte that decodes is a pair of decimal digits. -/
theorem digitsOfByte_some {b : Byte} {d : Nat} (h : digitsOfByte b = some d) :
    ∃ hi lo, hi < 10 ∧ lo < 10 ∧ d = hi * 10 + lo ∧ b = digitPair hi lo := by
  simp only [digitsOfByte] at h
  split at h
  · rename_i hle
    cases h
    exact ⟨_, _, by omega, by omega, rfl, (digitPair_of_nibbles b).symm⟩
  · cases h

/-! The codec. -/

/-- Bytes packed from decimal digits decode to the number that those digits continue. -/
theorem bcdDecodeFrom_packDigits (v n : Nat) {ds : List Nat} (hlen : ds.length = 2 * n)
    (h : ∀ d ∈ ds, d < 10) :
    bcdDecodeFrom v (packDigits ds) = some (ds.foldl (fun v d => v * 10 + d) v) := by
  induction n generalizing v ds with
  | zero => rw [List.eq_nil_of_length_eq_zero hlen]; rfl
  | succ n ih =>
    match ds, hlen with
    | hi :: lo :: rest, hlen =>
      have hrest : rest.length = 2 * n := by simp at hlen; omega
      rw [packDigits, bcdDecodeFrom, digitsOfByte_digitPair (h hi (by simp)) (h lo (by simp))]
      simp only [List.foldl_cons]
      rw [ih _ hrest fun d hd => h d (by simp [hd])]
      congr 2; omega

/-- Bytes that decode are packed from decimal digits, two a byte. -/
theorem bcdDecodeFrom_some {v w : Nat} {bs : List Byte} (h : bcdDecodeFrom v bs = some w) :
    ∃ ds : List Nat, ds.length = 2 * bs.length ∧ (∀ d ∈ ds, d < 10) ∧ bs = packDigits ds ∧
      w = ds.foldl (fun v d => v * 10 + d) v := by
  induction bs generalizing v with
  | nil => exact ⟨[], rfl, by simp, rfl, by simpa [bcdDecodeFrom] using h.symm⟩
  | cons b bs ih =>
    rw [bcdDecodeFrom] at h
    split at h
    · rename_i d hd
      obtain ⟨hi, lo, hhi, hlo, rfl, rfl⟩ := digitsOfByte_some hd
      obtain ⟨ds, hlen, hds, rfl, rfl⟩ := ih h
      refine ⟨hi :: lo :: ds, by simp [hlen]; omega, by simpa [hhi, hlo] using hds, rfl, ?_⟩
      simp only [List.foldl_cons]
      congr 1; omega
    · cases h

/-- A value that fits is decoded from its bytes (R102). -/
theorem bcdDecode_bcdBytes {v n : Nat} (h : (digits v).length ≤ 2 * n) :
    bcdDecode (bcdBytes v n) = some v := by
  rw [bcdBytes_eq, bcdDecode,
    bcdDecodeFrom_packDigits 0 n (paddedDigits_length h) (paddedDigits_lt_ten v _)]
  exact congrArg some (ofDigits_paddedDigits v (2 * n))

/-- Bytes that decode are those of the value, and the value fits them (R102). -/
theorem bcdDecode_some {bs : List Byte} {v : Nat} (h : bcdDecode bs = some v) :
    v < 10 ^ (2 * bs.length) ∧ (bs ≠ [] → bcdBytes v bs.length = bs) := by
  obtain ⟨ds, hlen, hds, hbs, hv⟩ := bcdDecodeFrom_some h
  have hv : v = ofDigits ds := hv
  refine ⟨by rw [hv, ← hlen]; exact ofDigits_lt hds, fun hne => ?_⟩
  have hds_ne : ds ≠ [] := by
    rintro rfl
    exact hne hbs
  rw [bcdBytes_eq, hv, ← hlen, paddedDigits_ofDigits hds_ne hds, ← hbs]

theorem bcdDecode_amount {v : Nat} (h : v < Config.amountLimit) :
    bcdDecode (bcdBytes v Config.amountLen) = some v :=
  bcdDecode_bcdBytes ((digits_length_le_iff 9 v).mpr h)

/-- Five bytes that decode are the field of an amount of at most ten digits (R89, R92). -/
theorem bcdDecode_amount_some {bs : List Byte} {v : Nat} (hlen : bs.length = 5)
    (h : bcdDecode bs = some v) : v < Config.amountLimit ∧ bcdBytes v Config.amountLen = bs := by
  obtain ⟨hlt, hbytes⟩ := bcdDecode_some h
  rw [hlen] at hlt hbytes
  exact ⟨hlt, hbytes (by rintro rfl; simp at hlen)⟩

/-! The transaction id field (R185). -/

theorem digitOfAscii_asciiDigit {d : Nat} (h : d < 10) : digitOfAscii (asciiDigit d) = some d := by
  have hcode : (asciiDigit d).toNat = 0x30 + d := by
    simp only [asciiDigit, BitVec.toNat_ofNat]; omega
  rw [digitOfAscii, hcode, if_pos (by omega), Nat.add_sub_cancel_left]

theorem digitOfAscii_some {b : Byte} {d : Nat} (h : digitOfAscii b = some d) : asciiDigit d = b := by
  simp only [digitOfAscii] at h
  split at h
  · cases h
    rw [asciiDigit, Nat.add_sub_cancel' (by omega), BitVec.ofNat_toNat, BitVec.setWidth_eq]
  · cases h

theorem mapM_digitOfAscii_map {ds : List Nat} (h : ∀ d ∈ ds, d < 10) :
    (ds.map asciiDigit).mapM digitOfAscii = some ds := by
  induction ds with
  | nil => rfl
  | cons d ds ih =>
    have hrest := ih fun e he => h e (by simp [he])
    simp [List.mapM_cons, digitOfAscii_asciiDigit (h d (by simp)), hrest]

theorem mapM_digitOfAscii_some {bs : List Byte} {ds : List Nat}
    (h : bs.mapM digitOfAscii = some ds) : ds.map asciiDigit = bs := by
  induction bs generalizing ds with
  | nil => cases h; rfl
  | cons b bs ih =>
    simp only [List.mapM_cons, Option.bind_eq_bind, Option.bind_eq_some_iff, Option.pure_def,
      Option.some.injEq] at h
    obtain ⟨d, hd, rest, hrest, rfl⟩ := h
    rw [List.map_cons, digitOfAscii_some hd, ih hrest]

theorem decodeId_asciiOfId (id : Word32) : decodeId (asciiOfId id) = some id := by
  rw [decodeId, asciiOfId, mapM_digitOfAscii_map (digits_lt_ten _)]
  simp [ofDigits_digits, id.isLt]

/-- A field that decodes is the digits of the id in ASCII. -/
theorem decodeId_some {bs : List Byte} {id : Word32} (h : decodeId bs = some id) :
    asciiOfId id = bs := by
  rw [decodeId] at h
  split at h
  · cases h
  · rename_i ds hds
    dsimp only at h
    split at h
    · rename_i hv
      obtain ⟨hlt, hdigits⟩ := hv
      cases h
      rw [asciiOfId, BitVec.toNat_ofNat, Nat.mod_eq_of_lt hlt, hdigits, mapM_digitOfAscii_some hds]
    · cases h

end Sys2Proof
end

section
/-! SUPPORT. The host operation words (R80 to R84). -/

namespace Sys2Proof

open Sys2Proof.Machine

theorem byte_eq_of_toNat {b : Byte} {k : Nat} (h : b.toNat = k) : b = BitVec.ofNat 8 k := by
  rw [← h, BitVec.ofNat_toNat, BitVec.setWidth_eq]

/-- The word with the sum of its fields' widths for its width. -/
theorem extract_opWord (op arg : Byte) (i n : Nat) :
    (opWord op arg).extractLsb' i n = (0#16 ++ arg ++ op).extractLsb' i n := rfl

theorem opWord_extract (op arg : Byte) : opField (opWord op arg) = op ∧
    argField (opWord op arg) = arg ∧ rsvField (opWord op arg) = 0 := by
  simp (disch := decide) only [opField, argField, rsvField, extract_opWord,
    BitVec.extractLsb'_append_eq_of_add_le, BitVec.extractLsb'_append_eq_of_le, Nat.reduceSub,
    BitVec.extractLsb'_eq_self, BitVec.ofNat_eq_ofNat, and_self]

/-- A word without reserved bits is its two fields. -/
theorem opWord_fields {w : Word32} (h : rsvField w = 0) : opWord (opField w) (argField w) = w := by
  have hw : rsvField w ++ argField w ++ opField w = w := by
    apply BitVec.eq_of_getLsbD_eq
    intro i hi
    simp only [rsvField, argField, opField, BitVec.getLsbD_append, BitVec.getLsbD_extractLsb',
      Nat.zero_add]
    split
    · simp [*]
    · split
      · rw [show 8 + (i - 8) = i by omega]; simp [*]
      · rw [show 16 + (i - 8 - 8) = i by omega, show decide (i - 8 - 8 < 16) = true by simp; omega]
        simp
  rw [h] at hw
  exact hw

theorem decodeWord_opWord (op arg : Byte) : decodeWord (opWord op arg) = decodeOp op arg := by
  obtain ⟨hop, harg, hrsv⟩ := opWord_extract op arg
  rw [decodeWord, hrsv, hop, harg, if_neg (not_not.mpr rfl)]

@[simp] theorem sourceOfArg_arg (src : CrcSource) : sourceOfArg src.arg = some src := by
  cases src <;> rfl

@[simp] theorem typeOfArg_arg (t : TransferType) : typeOfArg t.arg = some t := by
  cases t <;> rfl

theorem sourceOfArg_some {arg : Byte} {src : CrcSource} (h : sourceOfArg arg = some src) :
    src.arg = arg := by
  unfold sourceOfArg at h
  split at h
  · cases h; exact ‹arg = 0›.symm
  · split at h
    · cases h; exact ‹arg = 1›.symm
    · split at h
      · cases h; exact ‹arg = 2›.symm
      · cases h

theorem typeOfArg_some {arg : Byte} {t : TransferType} (h : typeOfArg arg = some t) :
    t.arg = arg := by
  unfold typeOfArg at h
  split at h
  · cases h; exact ‹arg = 0›.symm
  · split at h
    · cases h; exact ‹arg = 1›.symm
    · split at h
      · cases h; exact ‹arg = 2›.symm
      · cases h

/-- An operation without argument that decodes has ARG 0 in its word. -/
theorem noArg_ok {op arg : Byte} {i j : Instr} (h : noArg arg j = .ok i) (hhost : isHostOp j = true)
    (hwf : j.wf = true) (henc : encode j = .word (opWord op 0)) :
    isHostOp i = true ∧ i.wf = true ∧ encode i = .word (opWord op arg) := by
  unfold noArg at h
  split at h
  · rename_i harg
    cases h
    exact ⟨hhost, hwf, harg ▸ henc⟩
  · cases h

/-- An operation that decodes is a host operation in its ARG domain, and OP and ARG are its own (R82). -/
theorem decodeOp_ok {op arg : Byte} {i : Instr} (h : decodeOp op arg = .ok i) :
    isHostOp i = true ∧ i.wf = true ∧ encode i = .word (opWord op arg) := by
  unfold decodeOp at h
  split at h
  case h_16 => cases h
  all_goals
    rename_i hop
    obtain rfl := byte_eq_of_toNat hop
  case h_2 =>
    split at h
    · cases h; exact ⟨rfl, rfl, by rw [encode, sourceOfArg_some ‹_›]; rfl⟩
    · cases h
  case h_3 | h_4 =>
    split at h
    · cases h; exact ⟨rfl, ‹_›, rfl⟩
    · cases h
  case h_5 => cases h; exact ⟨rfl, rfl, rfl⟩
  case h_9 | h_13 =>
    split at h
    · cases h; exact ⟨rfl, rfl, by rw [encode, typeOfArg_some ‹_›]; rfl⟩
    · cases h
  all_goals exact noArg_ok h rfl rfl rfl

/-- A host operation has a word, and its OP and ARG decode to it if ARG is in its domain (R82, R84). -/
theorem hostOp_word {i : Instr} (hhost : isHostOp i = true) (hwf : i.wf = true) :
    ∃ op arg, encode i = .word (opWord op arg) ∧ decodeOp op arg = .ok i := by
  cases i with
  | crc16 src => exact ⟨_, _, rfl, by simp [decodeOp]⟩
  | bcdEnc n => exact ⟨_, _, rfl, if_pos hwf⟩
  | bcdDec n => exact ⟨_, _, rfl, if_pos hwf⟩
  | buildXfer t => exact ⟨_, _, rfl, by simp [decodeOp]⟩
  | aftStart t => exact ⟨_, _, rfl, by simp [decodeOp]⟩
  | wireAftRegistration | wireAftTransfer | wireBalanceQuery | wireBalanceResponse | wireMeterRead
  | wireMeterResponse => cases hhost
  | _ => exact ⟨_, _, rfl, rfl⟩

/-- Settles O3: `decodeOp_ok` reads the operation from the fields of the word, `hostOp_word` the fields from
the operation. -/
theorem hostWordsDecodeExactlyAsEncoded : Obligations.HostWordsDecodeExactlyAsEncoded := by
  unfold Obligations.HostWordsDecodeExactlyAsEncoded
  intro w i
  constructor
  · intro h
    unfold decodeWord at h
    split at h
    · cases h
    · rename_i hrsv
      have hw := opWord_fields (not_not.mp hrsv)
      rw [← hw]
      exact decodeOp_ok h
  · rintro ⟨hhost, hwf, hword⟩
    obtain ⟨op, arg, henc, hdec⟩ := hostOp_word hhost hwf
    cases henc.symm.trans hword
    rw [decodeWord_opWord, hdec]

end Sys2Proof
end

section
/-! SUPPORT. The fields of a layout one behind the other, the byte orders read back, and the frames that the
CORE transmits as far as all their rows agree (R86). -/

namespace Sys2Proof

open Sys2Proof.Machine

/-! Fields of a layout. -/

/-- Field k of a layout stands behind the fields before it. -/
theorem slice_field {bs : List Byte} {fields : List (List Byte)} (hbs : bs = fields.flatten)
    {k i j : Nat} (hk : k < fields.length) (hi : (fields.take k).flatten.length = i)
    (hj : i + fields[k].length = j) : slice bs i j = fields[k] := by
  refine slice_of_append (c := (fields.drop (k + 1)).flatten) ?_ hi hj
  rw [hbs, ← List.flatten_cons, List.getElem_cons_drop, ← List.flatten_append, List.take_append_drop]

/-- The value with the sum of its bytes' widths for its width. -/
theorem extract_ofLe32 (a b c d : Byte) (i n : Nat) :
    (ofLe32 [a, b, c, d]).extractLsb' i n = (d ++ c ++ b ++ a).extractLsb' i n := rfl

theorem le32_ofLe32 {bs : List Byte} (h : bs.length = 4) : le32 (ofLe32 bs) = bs := by
  match bs, h with
  | [a, b, c, d], _ =>
    simp (disch := decide) only [le32, extract_ofLe32, BitVec.extractLsb'_append_eq_of_add_le,
      BitVec.extractLsb'_append_eq_of_le, Nat.reduceSub, BitVec.extractLsb'_eq_self]

theorem extract_ofLe16 (lo hi : Byte) (i n : Nat) :
    (ofLe16 lo hi).extractLsb' i n = (hi ++ lo).extractLsb' i n := rfl

theorem le16_ofLe16 (lo hi : Byte) : le16 (ofLe16 lo hi) = [lo, hi] := by
  simp (disch := decide) only [le16, extract_ofLe16, BitVec.extractLsb'_append_eq_of_add_le,
    BitVec.extractLsb'_append_eq_of_le, Nat.reduceSub, BitVec.extractLsb'_eq_self]

/-! The frames that the CORE transmits (R86). -/

/-- What a transmitted frame with this command byte carries (R87 to R91). -/
inductive SentRow (address : Byte) (payload : List Byte) : Byte → Instr → Prop
  | transfer {i : Instr} (h : decodeTransfer address payload = .ok i) : SentRow address payload 0x72 i
  | registration {i : Instr} (h : decodeRegistration address payload = .ok i) :
      SentRow address payload 0x73 i
  | balanceQuery (h : payload = []) : SentRow address payload 0x74 (.wireBalanceQuery address)
  | meterRead : SentRow address payload 0xAF (.wireMeterRead address payload)

theorem buildFrame_eq (a c : Byte) (p : List Byte) :
    buildFrame a c p = a :: c :: BitVec.ofNat 8 p.length ::
      (p ++ le16 (crc16 (a :: c :: BitVec.ofNat 8 p.length :: p))) := rfl

/-- A transmitted frame decodes exactly if it is the frame of a row's payload. -/
theorem decodeSent_ok_iff_row {bs : List Byte} {i : Instr} :
    decodeSent bs = .ok i ↔
      ∃ a c p, p.length ≤ 255 ∧ bs = buildFrame a c p ∧ SentRow a p c i := by
  constructor
  · intro h
    unfold decodeSent at h
    split at h
    · rename_i a c len rest
      split at h
      · cases h
      · rename_i hlen
        dsimp only at h
        split at h
        · cases h
        · rename_i hcrc
          have hplen : (rest.take len.toNat).length = len.toNat := by
            rw [List.length_take]; omega
          refine ⟨a, c, rest.take len.toNat, by have := len.isLt; omega, ?_, ?_⟩
          · rw [buildFrame_eq, hplen, BitVec.ofNat_toNat, BitVec.setWidth_eq, ← not_not.mp hcrc,
              List.take_append_drop]
          · split at h
            case h_1 hc => obtain rfl := byte_eq_of_toNat hc; exact .transfer h
            case h_2 hc => obtain rfl := byte_eq_of_toNat hc; exact .registration h
            case h_3 hc =>
              obtain rfl := byte_eq_of_toNat hc
              split at h
              · cases h; exact .balanceQuery ‹_›
              · cases h
            case h_4 hc => obtain rfl := byte_eq_of_toNat hc; cases h; exact .meterRead
            case h_5 => cases h
    · cases h
  · rintro ⟨a, c, p, hp, rfl, hrow⟩
    have hlen : (BitVec.ofNat 8 p.length).toNat = p.length := by
      rw [BitVec.toNat_ofNat]; omega
    rw [buildFrame_eq, decodeSent]
    simp only [hlen, List.length_append, le16_length, ne_eq, not_true_eq_false, if_false,
      List.take_left, List.drop_left]
    cases hrow with
    | transfer h => exact h
    | registration h => exact h
    | balanceQuery h => exact if_pos h
    | meterRead => rfl

end Sys2Proof
end

section
/-! SUPPORT. The registration and the transfer row (R88, R89): a payload decodes exactly to the well-formed
frame that has it. -/

namespace Sys2Proof

open Sys2Proof.Machine

theorem RegistrationFrame.wf_iff (f : RegistrationFrame) :
    f.wf = true ↔ f.registrationKey.length = 20 ∧ f.posId.length = 4 := by
  simp [RegistrationFrame.wf, Config.keyLen, Config.posFieldLen]

/-- The fields of R88, in order. -/
def RegistrationFrame.fields (f : RegistrationFrame) : List (List Byte) :=
  [[Config.regCode], le32 f.assetNumber, f.registrationKey, f.posId]

theorem RegistrationFrame.payload_eq (f : RegistrationFrame) : f.payload = f.fields.flatten := by
  simp [RegistrationFrame.payload, RegistrationFrame.fields]

/-- Where the fields of R88 stand in the payload. -/
theorem RegistrationFrame.payload_fields {f : RegistrationFrame} (hwf : f.wf = true) :
    f.payload.length = 29 ∧
    slice f.payload 0 1 = [Config.regCode] ∧
    slice f.payload 1 5 = le32 f.assetNumber ∧
    slice f.payload 5 25 = f.registrationKey ∧
    slice f.payload 25 29 = f.posId := by
  obtain ⟨hkey, hpos⟩ := f.wf_iff.mp hwf
  have hfield (k i j : Nat) (hk : k < 4) (hi : (f.fields.take k).flatten.length = i)
      (hj : i + (f.fields[k]'hk).length = j) : slice f.payload i j = f.fields[k]'hk :=
    slice_field f.payload_eq hk hi hj
  refine ⟨?_, hfield 0 _ _ (by decide) ?_ ?_, hfield 1 _ _ (by decide) ?_ ?_,
    hfield 2 _ _ (by decide) ?_ ?_, hfield 3 _ _ (by decide) ?_ ?_⟩ <;>
  simp [f.payload_eq, RegistrationFrame.fields, hkey, hpos]

/-- A registration payload that decodes is that of a well-formed frame. -/
theorem decodeRegistration_ok {a : Byte} {p : List Byte} {i : Instr}
    (h : decodeRegistration a p = .ok i) :
    ∃ f : RegistrationFrame, f.wf = true ∧ f.address = a ∧ f.payload = p ∧
      .wireAftRegistration f = i := by
  unfold decodeRegistration at h
  split at h
  · cases h
  rename_i hlen
  replace hlen := not_not.mp hlen
  split at h
  · cases h
  rename_i hcode
  cases h
  refine ⟨_, (RegistrationFrame.wf_iff _).mpr ⟨slice_length (by omega) 5, slice_length (by omega) 25⟩,
    rfl, ?_, rfl⟩
  rw [RegistrationFrame.payload, ← not_not.mp hcode, le32_ofLe32 (slice_length (by omega) 1),
    ← slice_one (by omega)]
  simp (disch := omega) only [slice_append_slice]
  exact slice_all hlen

/-- The payload of a well-formed registration frame decodes to it. -/
theorem decodeRegistration_payload {f : RegistrationFrame} (hwf : f.wf = true) :
    decodeRegistration f.address f.payload = .ok (.wireAftRegistration f) := by
  obtain ⟨hlen, -, hasset, hkey, hpos⟩ := RegistrationFrame.payload_fields hwf
  have hcode : byteAt f.payload 0 = Config.regCode := rfl
  simp only [decodeRegistration, hlen, hcode, hasset, hkey, hpos, ofLe32_le32, ne_eq,
    not_true_eq_false, if_false]

theorem TransferFrame.wf_iff (f : TransferFrame) :
    f.wf = true ↔ f.cashable < Config.amountLimit ∧ f.restricted < Config.amountLimit ∧
      f.nonRestricted < Config.amountLimit ∧ f.registrationKey.length = 20 := by
  simp [TransferFrame.wf, Config.keyLen, and_assoc]

/-- The fields of R89, in order, the three bytes at its start as one. -/
def TransferFrame.fields (f : TransferFrame) : List (List Byte) :=
  [[f.transferCode, f.transferIndex, f.transferTypeByte], bcdBytes f.cashable Config.amountLen,
    bcdBytes f.restricted Config.amountLen, bcdBytes f.nonRestricted Config.amountLen,
    [f.transferFlags], le32 f.assetNumber, f.registrationKey,
    [BitVec.ofNat 8 (digits f.transactionId.toNat).length], asciiOfId f.transactionId,
    [0, 0, 0, 0], le16 f.poolId, [0]]

theorem TransferFrame.payload_eq (f : TransferFrame) : f.payload = f.fields.flatten := by
  simp [TransferFrame.payload, TransferFrame.fields]

/-- Where the fields of R89 stand in the payload. -/
theorem TransferFrame.payload_fields {f : TransferFrame} (hwf : f.wf = true) :
    let n := (digits f.transactionId.toNat).length
    f.payload.length = 51 + n ∧
    slice f.payload 0 3 = [f.transferCode, f.transferIndex, f.transferTypeByte] ∧
    slice f.payload 3 8 = bcdBytes f.cashable Config.amountLen ∧
    slice f.payload 8 13 = bcdBytes f.restricted Config.amountLen ∧
    slice f.payload 13 18 = bcdBytes f.nonRestricted Config.amountLen ∧
    slice f.payload 18 19 = [f.transferFlags] ∧
    slice f.payload 19 23 = le32 f.assetNumber ∧
    slice f.payload 23 43 = f.registrationKey ∧
    slice f.payload 43 44 = [BitVec.ofNat 8 n] ∧
    slice f.payload 44 (44 + n) = asciiOfId f.transactionId ∧
    slice f.payload (44 + n) (48 + n) = [0, 0, 0, 0] ∧
    slice f.payload (48 + n) (50 + n) = le16 f.poolId ∧
    slice f.payload (50 + n) (51 + n) = [0] := by
  intro n
  obtain ⟨hcash, hrest, hnonr, hkey⟩ := f.wf_iff.mp hwf
  have hcash := amount_bytes_length hcash
  have hrest := amount_bytes_length hrest
  have hnonr := amount_bytes_length hnonr
  have hid : (digits f.transactionId.toNat).length = n := rfl
  have hfield (k i j : Nat) (hk : k < 12) (hi : (f.fields.take k).flatten.length = i)
      (hj : i + (f.fields[k]'hk).length = j) : slice f.payload i j = f.fields[k]'hk :=
    slice_field f.payload_eq hk hi hj
  refine ⟨?_, hfield 0 _ _ (by decide) ?_ ?_, hfield 1 _ _ (by decide) ?_ ?_,
    hfield 2 _ _ (by decide) ?_ ?_, hfield 3 _ _ (by decide) ?_ ?_, hfield 4 _ _ (by decide) ?_ ?_,
    hfield 5 _ _ (by decide) ?_ ?_, hfield 6 _ _ (by decide) ?_ ?_, hfield 7 _ _ (by decide) ?_ ?_,
    hfield 8 _ _ (by decide) ?_ ?_, hfield 9 _ _ (by decide) ?_ ?_, hfield 10 _ _ (by decide) ?_ ?_,
    hfield 11 _ _ (by decide) ?_ ?_⟩ <;>
  simp +arith [f.payload_eq, TransferFrame.fields, hcash, hrest, hnonr, hkey, hid]

/-- A transfer payload that decodes is that of a well-formed frame. -/
theorem decodeTransfer_ok {a : Byte} {p : List Byte} {i : Instr} (h : decodeTransfer a p = .ok i) :
    ∃ f : TransferFrame, f.wf = true ∧ f.address = a ∧ f.payload = p ∧ .wireAftTransfer f = i := by
  unfold decodeTransfer at h
  obtain ⟨n, hn⟩ : ∃ n, (byteAt p 43).toNat = n := ⟨_, rfl⟩
  simp only [hn] at h
  split at h
  · cases h
  rename_i hlen
  replace hlen := not_not.mp hlen
  split at h
  · cases h
  rename_i hconst
  obtain ⟨hzeros, hlast⟩ := not_or.mp hconst
  split at h
  swap
  · cases h
  rename_i cash rest nonr hcash hrest hnonr
  split at h
  swap
  · cases h
  rename_i id hid
  cases h
  -- Every check has passed, so each field of the frame encodes to its slice of p.
  obtain ⟨hcashLt, hcash⟩ := bcdDecode_amount_some (slice_length (by omega) 3) hcash
  obtain ⟨hrestLt, hrest⟩ := bcdDecode_amount_some (slice_length (by omega) 8) hrest
  obtain ⟨hnonrLt, hnonr⟩ := bcdDecode_amount_some (slice_length (by omega) 13) hnonr
  have hid := decodeId_some hid
  have hcount : BitVec.ofNat 8 (digits id.toNat).length = byteAt p 43 := by
    rw [← asciiOfId_length, hid, slice_length (by omega), Nat.add_sub_cancel_left, ← hn,
      BitVec.ofNat_toNat, BitVec.setWidth_eq]
  refine ⟨_, (TransferFrame.wf_iff _).mpr ⟨hcashLt, hrestLt, hnonrLt, slice_length (by omega) 23⟩,
    rfl, ?_, rfl⟩
  simp only [TransferFrame.payload_eq, TransferFrame.fields, hcash, hrest, hnonr, hid, hcount,
    le32_ofLe32 (slice_length (show 23 ≤ p.length by omega) 19), le16_ofLe16]
  -- The slices, put together, are all of p.
  have hpool : [byteAt p (48 + n), byteAt p (49 + n)] = slice p (48 + n) (50 + n) := by
    rw [show 50 + n = 48 + n + 2 by omega, slice_two (by omega), show 49 + n = 48 + n + 1 by omega]
  have hlastByte : slice p (50 + n) (51 + n) = [0] := by
    rw [show 51 + n = 50 + n + 1 by omega, slice_one (by omega), not_not.mp hlast]
  rw [← slice_three (i := 0) (by omega), ← slice_one (i := 18) (by omega),
    ← slice_one (i := 43) (by omega), ← not_not.mp hzeros, hpool, ← hlastByte]
  simp (disch := omega) only [List.flatten_cons, List.flatten_nil, List.append_nil,
    slice_append_slice]
  exact slice_all hlen

/-- The payload of a well-formed transfer frame decodes to it. -/
theorem decodeTransfer_payload {f : TransferFrame} (hwf : f.wf = true) :
    decodeTransfer f.address f.payload = .ok (.wireAftTransfer f) := by
  obtain ⟨hlen, hhead, hcash, hrest, hnonr, hflags, hasset, hkey, hcount, hid, hzeros, hpool, hlast⟩ :=
    TransferFrame.payload_fields hwf
  obtain ⟨n, hn⟩ : ∃ n, (digits f.transactionId.toNat).length = n := ⟨_, rfl⟩
  have hn10 : n ≤ 10 := hn ▸ id_digits_length f.transactionId
  simp only [hn] at hlen hcount hid hzeros hpool hlast
  rw [slice_three (by omega)] at hhead
  rw [slice_one (by omega)] at hflags hcount
  rw [show 50 + n = 48 + n + 2 by omega, slice_two (by omega), show 48 + n + 1 = 49 + n by omega] at hpool
  rw [show 51 + n = 50 + n + 1 by omega, slice_one (by omega)] at hlast
  simp only [List.cons.injEq, and_true] at hhead hflags hcount hlast
  simp only [le16, List.cons.injEq, and_true] at hpool
  obtain ⟨hcode, hindex, htype⟩ := hhead
  obtain ⟨hpoolLo, hpoolHi⟩ := hpool
  obtain ⟨hcashLt, hrestLt, hnonrLt, -⟩ := f.wf_iff.mp hwf
  have hcountNat : (byteAt f.payload 43).toNat = n := by
    rw [hcount, BitVec.toNat_ofNat]; omega
  simp only [decodeTransfer, hcountNat, hlen, hzeros, hlast, hcash, hrest, hnonr, hid,
    bcdDecode_amount hcashLt, bcdDecode_amount hrestLt, bcdDecode_amount hnonrLt, decodeId_asciiOfId,
    hcode, hindex, htype, hflags, hasset, hkey, hpoolLo, hpoolHi, ofLe32_le32, ofLe16_le16,
    ne_eq, not_true_eq_false, or_self, if_false]

end Sys2Proof
end

section
/-! SUPPORT. The two received rows (R92, R93), and all rows together: decoding answers exactly the well-formed
instruction whose encoding it reads. -/

namespace Sys2Proof

open Sys2Proof.Machine

/-! The balance response (R92). -/

theorem BalanceResponse.wf_iff (r : BalanceResponse) :
    r.wf = true ↔ r.header.length = 9 ∧ r.cashable.length = 5 ∧ r.restricted.length = 5 ∧
      r.nonRestricted.length = 5 ∧ r.tail.length ≤ 233 := by
  simp only [BalanceResponse.wf, Bool.and_eq_true, beq_iff_eq, decide_eq_true_eq, and_assoc]
  rfl

/-- The fields of R92, in order, and what follows them. -/
def BalanceResponse.fields (r : BalanceResponse) : List (List Byte) :=
  [[r.address, 0x74, r.lengthByte], r.header, r.cashable, r.restricted, r.nonRestricted, r.tail]

theorem BalanceResponse.bytes_eq (r : BalanceResponse) : r.bytes = r.fields.flatten := by
  simp [BalanceResponse.bytes, BalanceResponse.fields]

/-- Where the fields of R92 stand in the response. -/
theorem BalanceResponse.bytes_fields {r : BalanceResponse} (hwf : r.wf = true) :
    r.bytes.length = 27 + r.tail.length ∧
    slice r.bytes 3 12 = r.header ∧
    slice r.bytes 12 17 = r.cashable ∧
    slice r.bytes 17 22 = r.restricted ∧
    slice r.bytes 22 27 = r.nonRestricted ∧
    r.bytes.drop 27 = r.tail := by
  obtain ⟨hheader, hcash, hrest, hnonr, -⟩ := r.wf_iff.mp hwf
  have hfield (k i j : Nat) (hk : k < 6) (hi : (r.fields.take k).flatten.length = i)
      (hj : i + (r.fields[k]'hk).length = j) : slice r.bytes i j = r.fields[k]'hk :=
    slice_field r.bytes_eq hk hi hj
  have htail : r.bytes.drop 27 = slice r.bytes 27 r.bytes.length := by rw [slice, List.take_length]
  rw [htail]
  refine ⟨?_, hfield 1 _ _ (by decide) ?_ ?_, hfield 2 _ _ (by decide) ?_ ?_,
    hfield 3 _ _ (by decide) ?_ ?_, hfield 4 _ _ (by decide) ?_ ?_, hfield 5 _ _ (by decide) ?_ ?_⟩ <;>
  simp +arith [r.bytes_eq, BalanceResponse.fields, hheader, hcash, hrest, hnonr]

/-- A response with command byte 0x74 decodes exactly to the fields it holds. -/
theorem decodeBalance_ok_iff {bs : List Byte} {i : Instr} :
    byteAt bs 1 = 0x74 ∧ decodeBalance bs = .ok i ↔
      ∃ r : BalanceResponse, r.wf = true ∧ r.bytes = bs ∧ .wireBalanceResponse r = i := by
  constructor
  · rintro ⟨hcommand, h⟩
    unfold decodeBalance at h
    split at h
    · cases h
    split at h
    · cases h
    rename_i hmin hmax
    simp only [Config.balMin, Config.frameMax, not_lt] at hmin hmax
    cases h
    refine ⟨_, (BalanceResponse.wf_iff _).mpr ⟨slice_length (by omega) 3, slice_length (by omega) 12,
      slice_length (by omega) 17, slice_length (by omega) 22, by simp; omega⟩, ?_, rfl⟩
    rw [BalanceResponse.bytes_eq, BalanceResponse.fields, ← hcommand,
      ← slice_three (i := 0) (by omega)]
    simp (disch := omega) only [List.flatten_cons, List.flatten_nil, List.append_nil,
      slice_append_drop]
    rfl
  · rintro ⟨r, hwf, rfl, rfl⟩
    obtain ⟨hlen, hheader, hcash, hrest, hnonr, htail⟩ := BalanceResponse.bytes_fields hwf
    obtain ⟨-, -, -, -, htailLen⟩ := r.wf_iff.mp hwf
    have haddr : byteAt r.bytes 0 = r.address := rfl
    have hlength : byteAt r.bytes 2 = r.lengthByte := rfl
    refine ⟨rfl, ?_⟩
    rw [decodeBalance, if_neg (by simp only [hlen, Config.balMin]; omega),
      if_neg (by simp only [hlen, Config.frameMax]; omega), haddr, hlength, hheader, hcash, hrest, hnonr,
      htail]

/-! The meter response (R93). -/

theorem MeterItem.wf_entry_iff (code reserved : Byte) (value : List Byte) :
    (MeterItem.entry code reserved value).wf = true ↔
      code ≠ 0 ∧ 1 ≤ value.length ∧ value.length ≤ 9 := by
  simp only [MeterItem.wf, Bool.and_eq_true, bne_iff_ne, decide_eq_true_eq, and_assoc]
  rfl

/-- The bytes of items that decode are theirs. -/
theorem decodeItems_some {fuel : Nat} {bs : List Byte} {items : List MeterItem}
    (h : decodeItems fuel bs = some items) :
    items.all MeterItem.wf = true ∧ items.flatMap MeterItem.bytes = bs := by
  fun_induction decodeItems fuel bs generalizing items with
  | case1 => cases h; exact ⟨rfl, rfl⟩
  | case2 => cases h
  | case3 fuel rest ih =>
    obtain ⟨items, hrest, rfl⟩ := Option.map_eq_some_iff.mp h
    obtain ⟨hwf, hbytes⟩ := ih hrest
    exact ⟨by simpa [MeterItem.wf] using hwf, by simp [MeterItem.bytes, hbytes]⟩
  | case4 fuel code hcode reserved l rest hl ih =>
    obtain ⟨items, hrest, rfl⟩ := Option.map_eq_some_iff.mp h
    obtain ⟨hwf, hbytes⟩ := ih hrest
    obtain ⟨hpos, hmax, hfit⟩ := hl
    have hvalue : (rest.take l.toNat).length = l.toNat := by rw [List.length_take]; omega
    have hentry : (MeterItem.entry code reserved (rest.take l.toNat)).wf = true :=
      (MeterItem.wf_entry_iff ..).mpr ⟨hcode, hvalue.symm ▸ hpos, hvalue.symm ▸ hmax⟩
    refine ⟨by rw [List.all_cons, hentry, hwf]; rfl, ?_⟩
    rw [List.flatMap_cons, MeterItem.bytes, hvalue, hbytes, BitVec.ofNat_toNat, BitVec.setWidth_eq]
    simp
  | case5 => cases h
  | case6 => cases h

/-- Well-formed items are read back from their bytes. -/
theorem decodeItems_flatMap_bytes {fuel : Nat} {items : List MeterItem}
    (hwf : items.all MeterItem.wf = true) (hfuel : (items.flatMap MeterItem.bytes).length ≤ fuel) :
    decodeItems fuel (items.flatMap MeterItem.bytes) = some items := by
  induction items generalizing fuel with
  | nil => cases fuel <;> rfl
  | cons item items ih =>
    rw [List.all_cons, Bool.and_eq_true] at hwf
    obtain ⟨hitem, hitems⟩ := hwf
    cases item with
    | padding =>
      simp only [List.flatMap_cons, MeterItem.bytes, List.cons_append, List.nil_append,
        List.length_cons] at hfuel ⊢
      obtain ⟨fuel, rfl⟩ : ∃ f, fuel = f + 1 := ⟨fuel - 1, by omega⟩
      simp [decodeItems, ih hitems (show _ ≤ fuel by omega)]
    | entry code reserved value =>
      obtain ⟨hcode, hpos, hmax⟩ := (MeterItem.wf_entry_iff ..).mp hitem
      have hl : (BitVec.ofNat 8 value.length).toNat = value.length := by
        rw [BitVec.toNat_ofNat]; omega
      simp only [List.flatMap_cons, MeterItem.bytes, List.cons_append, List.nil_append,
        List.length_cons, List.length_append] at hfuel ⊢
      obtain ⟨fuel, rfl⟩ : ∃ f, fuel = f + 1 := ⟨fuel - 1, by omega⟩
      rw [decodeItems, if_neg hcode]
      simp only [hl, List.length_append, List.drop_left, List.take_left]
      rw [if_pos ⟨hpos, hmax, by omega⟩, ih hitems (by omega), Option.map_some]

theorem MeterResponse.wf_iff (r : MeterResponse) :
    r.wf = true ↔ r.items.all MeterItem.wf = true ∧ r.payload.length ≤ 255 := by
  simp [MeterResponse.wf, MeterResponse.payload_length]

/-- A consistent frame: a header, the declared payload, and two more bytes (R144). -/
theorem parseOk_of_layout {a c c0 c1 : Byte} {p : List Byte} (hp : p.length ≤ 255) :
    let bs := [a, c, BitVec.ofNat 8 p.length] ++ p ++ [c0, c1]
    parseOk bs = true ∧ (byteAt bs 2).toNat = p.length ∧ slice bs 3 (3 + p.length) = p ∧
      byteAt bs (3 + p.length) = c0 ∧ byteAt bs (3 + p.length + 1) = c1 := by
  intro bs
  have hdeclared : (byteAt bs 2).toNat = p.length := by
    have hlength : byteAt bs 2 = BitVec.ofNat 8 p.length := rfl
    rw [hlength, BitVec.toNat_ofNat]; omega
  have hlen : bs.length = 3 + p.length + 2 := by simp [bs]; omega
  refine ⟨by simp [parseOk, hdeclared, hlen]; omega, hdeclared, ?_, ?_, ?_⟩
  · exact slice_of_append (a := [a, c, BitVec.ofNat 8 p.length]) (c := [c0, c1]) (by simp [bs]) rfl rfl
  · exact byteAt_of_append (a := [a, c, BitVec.ofNat 8 p.length] ++ p) rfl (by simp; omega)
  · exact byteAt_of_append (a := [a, c, BitVec.ofNat 8 p.length] ++ p ++ [c0]) (c := []) (by simp [bs])
      (by simp; omega)

theorem layout_of_parseOk {bs : List Byte} (h : parseOk bs = true) :
    let n := (byteAt bs 2).toNat
    (slice bs 3 (3 + n)).length = n ∧
      bs = [byteAt bs 0, byteAt bs 1, byteAt bs 2] ++ slice bs 3 (3 + n) ++
        [byteAt bs (3 + n), byteAt bs (3 + n + 1)] := by
  intro n
  simp only [parseOk, Bool.and_eq_true, decide_eq_true_eq, beq_iff_eq] at h
  obtain ⟨-, hlen⟩ := h
  refine ⟨by rw [slice_length (by omega)]; omega, ?_⟩
  rw [← slice_three (i := 0) (by omega), ← slice_two (by omega)]
  simp (disch := omega) only [slice_append_slice]
  exact (slice_all hlen).symm

/-- A response with command byte 0xAF decodes exactly to the items its payload holds. -/
theorem decodeMeter_ok_iff {bs : List Byte} {i : Instr} :
    byteAt bs 1 = 0xAF ∧ decodeMeter bs = .ok i ↔
      ∃ r : MeterResponse, r.wf = true ∧ r.bytes = bs ∧ .wireMeterResponse r = i := by
  constructor
  · rintro ⟨hcommand, h⟩
    unfold decodeMeter at h
    split at h
    · cases h
    rename_i hok
    obtain ⟨hn, hbs⟩ := layout_of_parseOk (not_not.mp hok)
    dsimp only at h
    split at h
    swap
    · cases h
    rename_i items hitems
    cases h
    obtain ⟨hwf, hbytes⟩ := decodeItems_some hitems
    have hpayload : items.flatMap MeterItem.bytes = slice bs 3 (3 + (byteAt bs 2).toNat) := hbytes
    refine ⟨_, (MeterResponse.wf_iff _).mpr ⟨hwf, ?_⟩, ?_, rfl⟩
    · have := (byteAt bs 2).isLt
      rw [MeterResponse.payload, hpayload, hn]; omega
    · rw [MeterResponse.bytes, MeterResponse.payload, hpayload, frameBody, le16_ofLe16, hn,
        BitVec.ofNat_toNat, BitVec.setWidth_eq, ← hcommand]
      exact hbs.symm
  · rintro ⟨r, hwf, rfl, rfl⟩
    obtain ⟨hitems, hlen⟩ := r.wf_iff.mp hwf
    obtain ⟨hok, hdeclared, hregion, hlo, hhi⟩ :=
      parseOk_of_layout (a := r.address) (c := 0xAF) (c0 := r.crc.extractLsb' 0 8)
        (c1 := r.crc.extractLsb' 8 8) hlen
    have hbytes : r.bytes = [r.address, 0xAF, BitVec.ofNat 8 r.payload.length] ++ r.payload ++
      [r.crc.extractLsb' 0 8, r.crc.extractLsb' 8 8] := rfl
    rw [← hbytes] at hok hdeclared hregion hlo hhi
    have hfit : r.payload.length ≤ r.bytes.length := by
      rw [hbytes]; simp; omega
    have haddr : byteAt r.bytes 0 = r.address := rfl
    have hread : decodeItems r.bytes.length r.payload = some r.items :=
      decodeItems_flatMap_bytes hitems hfit
    refine ⟨rfl, ?_⟩
    simp only [decodeMeter, hok, hdeclared, hregion, hlo, hhi, haddr, hread, ofLe16_le16,
      not_true_eq_false, if_false]

/-! Every row. -/

/-- A received frame decodes exactly if it is a balance or a meter response (R92, R93). -/
theorem decodeReceived_ok_iff {bs : List Byte} {i : Instr} :
    decodeReceived bs = .ok i ↔
      (∃ r : BalanceResponse, r.wf = true ∧ r.bytes = bs ∧ .wireBalanceResponse r = i) ∨
      (∃ r : MeterResponse, r.wf = true ∧ r.bytes = bs ∧ .wireMeterResponse r = i) := by
  rw [← decodeBalance_ok_iff, ← decodeMeter_ok_iff]
  constructor
  · intro h
    unfold decodeReceived at h
    split at h
    · cases h
    split at h
    case h_1 hc => exact .inl ⟨byte_eq_of_toNat hc, h⟩
    case h_2 hc => exact .inr ⟨byte_eq_of_toNat hc, h⟩
    case h_3 => cases h
  · have hlong {b : Byte} (hb : b ≠ 0) (hc : byteAt bs 1 = b) : ¬ bs.length < 2 := by
      intro hshort
      rw [byteAt, List.getD_eq_default _ _ (by omega)] at hc
      exact hb hc.symm
    rintro (⟨hc, h⟩ | ⟨hc, h⟩)
    · rw [decodeReceived, if_neg (hlong (by decide) hc), hc]; exact h
    · rw [decodeReceived, if_neg (hlong (by decide) hc), hc]; exact h

/-- A transmitted frame decodes exactly to the well-formed instruction that encodes to it (R88 to R91). -/
theorem decodeSent_ok_iff_encode {bs : List Byte} {i : Instr} :
    decodeSent bs = .ok i ↔ i.wf = true ∧ encode i = .sent bs := by
  rw [decodeSent_ok_iff_row]
  constructor
  · rintro ⟨a, c, p, hp, rfl, hrow⟩
    cases hrow with
    | transfer h =>
      obtain ⟨f, hwf, rfl, rfl, rfl⟩ := decodeTransfer_ok h
      exact ⟨hwf, rfl⟩
    | registration h =>
      obtain ⟨f, hwf, rfl, rfl, rfl⟩ := decodeRegistration_ok h
      exact ⟨hwf, rfl⟩
    | balanceQuery h => exact ⟨rfl, by rw [h]; rfl⟩
    | meterRead => exact ⟨decide_eq_true hp, rfl⟩
  · rintro ⟨hwf, henc⟩
    cases i with
    | wireAftTransfer f =>
      cases henc
      obtain ⟨hlen, -⟩ := TransferFrame.payload_fields hwf
      have hid := id_digits_length f.transactionId
      exact ⟨_, _, _, by omega, rfl, .transfer (decodeTransfer_payload hwf)⟩
    | wireAftRegistration f =>
      cases henc
      obtain ⟨hlen, -⟩ := RegistrationFrame.payload_fields hwf
      exact ⟨_, _, _, by omega, rfl, .registration (decodeRegistration_payload hwf)⟩
    | wireBalanceQuery a => cases henc; exact ⟨_, _, _, by simp, rfl, .balanceQuery rfl⟩
    | wireMeterRead a p => cases henc; exact ⟨_, _, _, of_decide_eq_true hwf, rfl, .meterRead⟩
    | _ => cases henc

/-- Decoding answers exactly the well-formed instruction whose encoding it reads. -/
theorem decode_ok_iff {e : Encoded} {i : Instr} :
    decode e = .ok i ↔ i.wf = true ∧ encode i = e := by
  cases e with
  | word w =>
    rw [decode, hostWordsDecodeExactlyAsEncoded w i]
    constructor
    · exact fun ⟨_, h⟩ => h
    · rintro ⟨hwf, henc⟩
      refine ⟨?_, hwf, henc⟩
      cases i with
      | wireAftRegistration | wireAftTransfer | wireBalanceQuery | wireBalanceResponse | wireMeterRead
      | wireMeterResponse => cases henc
      | _ => rfl
  | sent bs => exact decodeSent_ok_iff_encode
  | received bs =>
    rw [decode, decodeReceived_ok_iff]
    constructor
    · rintro (⟨r, hwf, rfl, rfl⟩ | ⟨r, hwf, rfl, rfl⟩) <;> exact ⟨hwf, rfl⟩
    · rintro ⟨hwf, henc⟩
      cases i with
      | wireBalanceResponse r => cases henc; exact .inl ⟨r, hwf, rfl, rfl⟩
      | wireMeterResponse r => cases henc; exact .inr ⟨r, hwf, rfl, rfl⟩
      | _ => cases henc

/-- Settles O4: the frames' half of `decode_ok_iff`, from right to left. -/
theorem wireFramesDecodeToWhatTheyEncode : Obligations.WireFramesDecodeToWhatTheyEncode := by
  unfold Obligations.WireFramesDecodeToWhatTheyEncode
  exact fun i _ hwf => decode_ok_iff.mpr ⟨hwf, rfl⟩

/-- Settles O5: `decode_ok_iff` from left to right. -/
theorem decodedBitsEncodeBack : Obligations.DecodedBitsEncodeBack := by
  unfold Obligations.DecodedBitsEncodeBack
  exact fun e i h => decode_ok_iff.mp h

/-- Settles O1: the legal words and the two frames are encodings (`decode_ok_iff`); the three illegal words
fail the first check that the statement names. -/
theorem sampleEncodingsDecode : Obligations.SampleEncodingsDecode := by
  unfold Obligations.SampleEncodingsDecode
  have hword {w : Word32} {i : Instr} (hwf : i.wf = true) (henc : encode i = .word w) :
      decodeWord w = .ok i := decode_ok_iff.mpr ⟨hwf, henc⟩
  have hsent {bs : List Byte} {i : Instr} (hwf : i.wf = true) (henc : encode i = .sent bs) :
      decodeSent bs = .ok i := decode_ok_iff.mpr ⟨hwf, henc⟩
  refine ⟨hword rfl rfl, hword rfl rfl, hword rfl rfl, hword rfl rfl, hword rfl rfl, hword rfl rfl,
    hword rfl rfl, ?_, ?_, ?_, hsent rfl (by decide +kernel), hsent rfl (by decide +kernel)⟩
  · exact if_pos (by decide)
  · exact if_neg (by decide)
  · exact if_neg (by decide)

end Sys2Proof
end

section
/-! SUPPORT. The frames that the builders put in TXBUF (R88 to R90, R180 to R186). -/

namespace Sys2Proof.Machine

/-- A frame loaded into TXBUF: its bytes stand at the start, the rest of TXBUF keeps its values (R141). -/
theorem CoreState.loadTx_finish {c : CoreState} (hc : MemoriesCanonical c) (p : Params) {f : List Byte}
    (hf : f.length ≤ Config.frameMax) :
    ∃ m : Memory, (c.loadTx p f).finish = withErr (c.withBuf { c.buf with
        txbuf := m, txlen := BitVec.ofNat 9 f.length }) .ok ∧
      Memory.readRange m 0 f.length = f ∧
      ∀ a, f.length ≤ a → Memory.read m a = Memory.read c.buf.txbuf a := by
  obtain ⟨-, htx, -, -⟩ := hc
  refine ⟨Memory.writeRange Config.frameMax c.buf.txbuf 0 f, ?_, Memory.readRange_writeRange htx f hf, ?_⟩
  · rw [CoreState.loadTx_eq]; rfl
  · intro a ha
    rw [Memory.read_writeRange htx 0 f (by omega), if_neg (by omega)]

/-- The frame that R140 builds is the one of R86, byte for byte. -/
theorem buildFrame_eq_frameOf {a c len : Byte} {p : List Byte} (h : BitVec.ofNat 8 p.length = len) :
    buildFrame a c p = frameOf a c len p := by
  rw [← h]; rfl

/-- POSFIELD is the posId characters, padded with 0x00 (R181). -/
theorem ConfigRegs.posField_eq (p : Params) (g : ConfigRegs) :
    g.posField p = (List.range 4).map fun k =>
      if k < g.posLen.toNat then g.posId.extractLsb' (8 * k) 8 else 0x00 := by
  simp only [ConfigRegs.posField, Fixed.val_eq]
  rfl

@[simp] theorem ConfigRegs.posField_length (p : Params) (g : ConfigRegs) :
    (g.posField p).length = 4 := by
  simp [ConfigRegs.posField_eq]

/-- The registration frame is the wire row of the configuration and the key (R88, R180). -/
theorem registrationFrame_eq (p : Params) (c : CoreState) :
    registrationFrame p c = wireBytes (.wireAftRegistration
      { address := c.cfg.addr
        assetNumber := c.cfg.asset
        registrationKey := Memory.readRange c.buf.keybuf 0 20
        posId := c.cfg.posField p }) := by
  simp only [registrationFrame, CoreState.key_eq, Fixed.val_eq]
  rfl

/-- The transfer frame is the wire row of the request, the amount in the field of its type
(R89, R183, R184). -/
theorem transferFrame_eq (p : Params) (c : CoreState) (t : TransferType) (amount : Nat) (id : Word32) :
    transferFrame p c t amount id = wireBytes (.wireAftTransfer (transferFields p c t amount id)) := by
  have hamounts : amountFields t amount = (if t = .cashable then amount else 0,
      if t = .restricted then amount else 0, if t = .nonRestricted then amount else 0) := by
    cases t <;> rfl
  have htype : typeByte p t = (transferFields p c t amount id).transferTypeByte := by
    cases t <;> rfl
  have hpool : poolBytes p c.cfg = le16 (transferFields p c t amount id).poolId := by
    have hfield : (transferFields p c t amount id).poolId =
      if p.poolPassthru then c.cfg.poolId else 0 := rfl
    rw [hfield, poolBytes]
    split
    · rfl
    · decide
  simp only [transferFrame, transferPayload, hamounts, htype, hpool, CoreState.key_eq,
    asciiOfId_length]
  rfl

theorem transferFields_wf (p : Params) (c : CoreState) (t : TransferType) {amount : Nat}
    (h : amount < Config.amountLimit) (id : Word32) : (transferFields p c t amount id).wf = true := by
  have hzero : 0 < Config.amountLimit := by decide
  refine (TransferFrame.wf_iff _).mpr ⟨?_, ?_, ?_, Memory.readRange_length _ _ _⟩ <;>
  · dsimp only [transferFields]
    split
    · exact h
    · exact hzero

/-- The frame of an amount of at most ten digits has 56 bytes and the digits of the id (R89). -/
theorem transferFrame_length (p : Params) (c : CoreState) (t : TransferType) {amount : Nat}
    (h : amount < Config.amountLimit) (id : Word32) :
    (transferFrame p c t amount id).length = 56 + (digits id.toNat).length := by
  obtain ⟨hlen, -⟩ := TransferFrame.payload_fields (transferFields_wf p c t h id)
  rw [transferFrame_eq]
  refine (buildFrame_length _ _ _).trans ?_
  rw [hlen, show (transferFields p c t amount id).transactionId = id from rfl]
  omega

/-- Settles O23: the frame is the wire row of `registrationFrame_eq`, and `loadTx_finish` puts it in
TXBUF. -/
theorem registrationFrameFollowsItsLayout : Obligations.RegistrationFrameFollowsItsLayout := by
  unfold Obligations.RegistrationFrameFollowsItsLayout
  constructor
  · intro p g
    refine ⟨g.posField_length p, fun k hk => ?_⟩
    rw [g.posField_eq, byteAt, List.getD_eq_getElem _ _ (by simpa using hk), List.getElem_map,
      List.getElem_range]
  · intro s hc hidle
    have hlen := registrationFrame_length s.params s.core
    obtain ⟨m, hcore, hbytes, hrest⟩ :=
      s.core.loadTx_finish hc s.params (f := registrationFrame s.params s.core) (by rw [hlen]; decide)
    rw [hlen] at hcore hbytes hrest
    refine ⟨m, ?_, ?_, hbytes.trans (registrationFrame_eq _ _), hrest⟩
    · exact (hostOp_idle hidle _).trans (by rw [buildRegRule, hcore]; rfl)
    · rw [hbytes, registrationFrame, CoreState.key_eq, Fixed.val_eq]
      exact buildFrame_eq_frameOf (by simp)

/-- Settles O24: the frame is the wire row of `transferFrame_eq`, and `loadTx_finish` puts it in TXBUF. -/
theorem transferFrameFollowsItsLayout : Obligations.TransferFrameFollowsItsLayout := by
  unfold Obligations.TransferFrameFollowsItsLayout
  constructor
  · intro ty s hc hidle hamount
    have hlimit : s.core.opnd.value.toNat < Config.amountLimit := hamount
    have hlen := transferFrame_length s.params s.core ty hlimit s.core.opnd.txid
    obtain ⟨m, hcore, hbytes, hrest⟩ :=
      s.core.loadTx_finish hc s.params (transferFrame_length_le s.params s.core ty
        s.core.opnd.value.isLt s.core.opnd.txid)
    rw [hlen] at hcore hbytes hrest
    refine ⟨m, ?_, hbytes.trans (transferFrame_eq _ _ _ _ _), hrest⟩
    refine (hostOp_idle hidle _).trans ?_
    rw [buildXferRule, if_neg (Nat.not_le.mpr hlimit), hcore]
  · intro ty s hidle hamount
    have hlimit : Config.amountLimit ≤ s.core.opnd.value.toNat := hamount
    exact (hostOp_idle hidle _).trans (by rw [buildXferRule, if_pos hlimit]; rfl)

/-- Settles O26: the frame is the wire row by definition, and `loadTx_finish` puts it in TXBUF. -/
theorem balanceQueryFrameFollowsItsLayout : Obligations.BalanceQueryFrameFollowsItsLayout := by
  unfold Obligations.BalanceQueryFrameFollowsItsLayout
  intro s hc hidle
  have hlen := balanceQueryFrame_length s.core
  obtain ⟨m, hcore, hbytes, hrest⟩ :=
    s.core.loadTx_finish hc s.params (f := balanceQueryFrame s.core) (by rw [hlen]; decide)
  rw [hlen] at hcore hbytes hrest
  refine ⟨m, ?_, hbytes.trans (buildFrame_eq_frameOf rfl), hbytes, hrest⟩
  exact (hostOp_idle hidle _).trans (by rw [buildBalqRule, hcore]; rfl)

end Sys2Proof.Machine
end

section
/-! SUPPORT. Responses in RXBUF laid out as R92 and R93 say, and what the parsers read from them. -/

namespace Sys2Proof.Machine

/-! The balance response (R92, R200). -/

/-- An amount field fits its balance register (R92, R204). -/
theorem resultValue_amount (p : Params) {bs : List Byte} {v : Nat} (hlen : bs.length = 5)
    (h : bcdDecode bs = some v) : (resultValue p v).toNat = v := by
  obtain ⟨hlt, -⟩ := bcdDecode_amount_some hlen h
  rw [Config.amountLimit] at hlt
  rw [resultValue_eq, BitVec.toNat_ofNat]
  omega

/-- Settles O28: the response has the start that R200 asks for, and its fields stand where R92 puts them. -/
theorem balanceResponseLayoutIsRead : Obligations.BalanceResponseLayoutIsRead := by
  unfold Obligations.BalanceResponseLayoutIsRead
  intro s r cash rest nonr hidle hwf hrx haddr hcash hrest hnonr
  obtain ⟨-, hcashLen, hrestLen, hnonrLen, -⟩ := r.wf_iff.mp hwf
  obtain ⟨hlen, -, hcashField, hrestField, hnonrField, -⟩ := BalanceResponse.bytes_fields hwf
  have hstart : balancePrefixOk s.params s.core.cfg.addr r.bytes = true := by
    have hhead : byteAt r.bytes 0 = r.address ∧ byteAt r.bytes 1 = 0x74 := ⟨rfl, rfl⟩
    simp [balancePrefixOk, hlen, hhead, haddr, Config.balMin]
  have hfields : balanceFields s.params r.bytes = some
      { cash := resultValue s.params cash, rest := resultValue s.params rest,
        nonr := resultValue s.params nonr } := by
    simp only [balanceFields, Fixed.val_eq, Config.cashOff, Config.restOff, Config.nonrOff,
      Config.amountLen, Nat.reduceAdd, hcashField, hrestField, hnonrField, hcash, hrest, hnonr]
  refine ⟨_, hostOp_idle hidle _, ?_⟩
  simp only [State.withCore_core, balParseRule, balanceBody, hrx, hstart, hfields, if_true]
  exact ⟨rfl, resultValue_amount _ hcashLen hcash, resultValue_amount _ hrestLen hrest,
    resultValue_amount _ hnonrLen hnonr, rfl, rfl, rfl⟩

/-! The meter response (R93, R160). -/

theorem meterEntries_entry (code reserved : Byte) (value : List Byte) (items : List MeterItem) :
    meterEntries (.entry code reserved value :: items) = (code, value) :: meterEntries items := rfl

theorem meterEntries_padding (items : List MeterItem) :
    meterEntries (.padding :: items) = meterEntries items := rfl

/-- The table after more entries, in order (R44). -/
def storeEntries (t : MeterTable) (entries : List (Byte × List Byte)) : MeterTable :=
  entries.foldl
    (fun t e => MeterTable.set t e.1.toNat (BitVec.ofNat 64 ((bcdDecode e.2).getD 0))) t

theorem meterTableOf_eq (entries : List (Byte × List Byte)) :
    meterTableOf entries = storeEntries [] entries := rfl

theorem storeEntries_cons (t : MeterTable) (code : Byte) (value : List Byte) {v : Nat}
    (h : bcdDecode value = some v) (entries : List (Byte × List Byte)) :
    storeEntries t ((code, value) :: entries) =
      storeEntries (MeterTable.set t code.toNat (BitVec.ofNat 64 v)) entries := by
  simp [storeEntries, h]

/-- Bytes of decimal digits decode (R103). -/
theorem bcdDecode_of_allDigits {bs : List Byte} (h : allDigits bs = true) :
    ∃ v, bcdDecode bs = some v := by
  suffices hfrom : ∀ v, ∃ w, bcdDecodeFrom v bs = some w from hfrom 0
  induction bs with
  | nil => exact fun v => ⟨v, rfl⟩
  | cons b bs ih =>
    intro v
    simp only [allDigits, List.all_cons, Bool.and_eq_true, decide_eq_true_eq] at h
    obtain ⟨hb, hbs⟩ := h
    rw [bcdDecodeFrom, digitsOfByte]
    simp only [if_pos hb]
    exact ih hbs _

theorem meterScan_padding (p : Params) (fuel : Nat) (rest : List Byte) (attempts : Nat) (t : MeterTable) :
    meterScan p (fuel + 1) (0 :: rest) attempts t = meterScan p fuel rest attempts t :=
  if_pos rfl

/-- The loop of R160 over the bytes of well-formed decimal items, with attempts left for all of them,
stores their entries and meets the end of the region. -/
theorem meterScan_items (p : Params) {items : List MeterItem} {fuel attempts : Nat} (t : MeterTable)
    (hwf : items.all MeterItem.wf = true) (hdigits : ∀ e ∈ meterEntries items, allDigits e.2 = true)
    (hfuel : (items.flatMap MeterItem.bytes).length ≤ fuel)
    (hattempts : (meterEntries items).length ≤ attempts) :
    meterScan p fuel (items.flatMap MeterItem.bytes) attempts t =
      (storeEntries t (meterEntries items), false) := by
  induction items generalizing fuel attempts t with
  | nil => cases fuel <;> rfl
  | cons item items ih =>
    rw [List.all_cons, Bool.and_eq_true] at hwf
    obtain ⟨hitem, hitems⟩ := hwf
    cases item with
    | padding =>
      rw [meterEntries_padding] at hdigits hattempts ⊢
      simp only [List.flatMap_cons, MeterItem.bytes, List.cons_append, List.nil_append,
        List.length_cons] at hfuel ⊢
      obtain ⟨fuel, rfl⟩ : ∃ f, fuel = f + 1 := ⟨fuel - 1, by omega⟩
      rw [meterScan_padding]
      exact ih t hitems hdigits (by omega) hattempts
    | entry code reserved value =>
      obtain ⟨hcode, hpos, hmax⟩ := (MeterItem.wf_entry_iff ..).mp hitem
      have hl : (BitVec.ofNat 8 value.length).toNat = value.length := by
        rw [BitVec.toNat_ofNat]; omega
      rw [meterEntries_entry] at hdigits hattempts
      rw [meterEntries_entry]
      obtain ⟨v, hv⟩ := bcdDecode_of_allDigits (hdigits (code, value) (by simp))
      simp only [List.flatMap_cons, MeterItem.bytes, List.cons_append, List.nil_append,
        List.length_cons, List.length_append] at hfuel hattempts ⊢
      obtain ⟨fuel, rfl⟩ : ∃ f, fuel = f + 1 := ⟨fuel - 1, by omega⟩
      rw [meterScan, if_neg hcode, if_neg (by omega)]
      simp only [hl, Fixed.val_eq, Config.maxMeterBytes, List.length_append, List.drop_left,
        List.take_left, hv, resultValue_eq]
      rw [if_neg (by omega), storeEntries_cons t code value hv]
      exact ih _ hitems (fun e he => hdigits e (by simp [he])) (by omega) (by omega)

/-- The parse reads exactly the parse region (R161). -/
theorem meterParse_of_region (p : Params) (cap : Nat) {bs region : List Byte}
    (h : IsMeterRegion bs region) :
    3 ≤ bs.length ∧ meterParse p cap bs = meterScan p region.length region cap [] := by
  suffices hregion : 3 ≤ bs.length ∧ slice bs 3 (meterRegionEnd bs) = region by
    obtain ⟨hlen, hslice⟩ := hregion
    exact ⟨hlen, by rw [meterParse, hslice]⟩
  rcases h with ⟨a, c, c0, c1, hlen, rfl⟩ | ⟨a, c, l, rfl, hok⟩
  · obtain ⟨hok, hdeclared, hslice, -, -⟩ := parseOk_of_layout (a := a) (c := c) (c0 := c0) (c1 := c1) hlen
    exact ⟨by simp, by rw [meterRegionEnd, if_pos hok, hdeclared, hslice]⟩
  · refine ⟨by simp, ?_⟩
    rw [meterRegionEnd, hok]
    exact slice_of_append (a := [a, c, l]) (c := []) (by simp) rfl (by simp; omega)

/-- A parse region of well-formed decimal items gives a complete result (R160, R164). -/
theorem meterParse_complete {s : State} {items : List MeterItem} (hidle : s.core.active = false)
    (hwf : items.all MeterItem.wf = true) (hdigits : ∀ e ∈ meterEntries items, allDigits e.2 = true)
    (hregion : IsMeterRegion s.core.rxBytes (items.flatMap MeterItem.bytes))
    (hcap : (meterEntries items).length ≤ s.core.cfg.mcap.toNat) :
    exec .meterParse s = .next (s.withCore
      ((s.core.withBuf { s.core.buf with
          mtab := meterTableOf (meterEntries items)
          mcount := BitVec.ofNat 8 (meterTableOf (meterEntries items)).length }).withStatus
        { s.core.status with err := .ok, partialResult := false })) := by
  obtain ⟨hlen, hparse⟩ := meterParse_of_region s.params s.core.cfg.mcap.toNat hregion
  rw [meterScan_items s.params [] hwf hdigits (Nat.le_refl _) hcap, ← meterTableOf_eq] at hparse
  refine (hostOp_idle hidle _).trans ?_
  rw [meterParseRule, if_neg (by omega), hparse]
  rfl

/-- Settles O21: both clauses are `meterParse_complete`; a well-formed response is a consistent frame. -/
theorem completeMeterResponseFillsTheTable : Obligations.CompleteMeterResponseFillsTheTable := by
  unfold Obligations.CompleteMeterResponseFillsTheTable
  constructor
  · intro s r hidle hwf hrx hdigits hcap
    obtain ⟨hitems, hlen⟩ := r.wf_iff.mp hwf
    exact meterParse_complete hidle hitems hdigits
      (.inl ⟨r.address, 0xAF, _, _, hlen, hrx⟩) hcap
  · exact fun s items hidle hwf hdigits hregion hcap =>
      meterParse_complete hidle hwf hdigits hregion hcap

end Sys2Proof.Machine
end

section
/-! SUPPORT. The digit codec between byte strings and the registers (R100 to R104): nibble j of a register is
digit j of the number that the digit string spells. -/

namespace Sys2Proof.Machine

/-! Nibbles of bytes and registers. -/

theorem nibbles_byteOf (w : Word64) (i : Nat) :
    ((byteOf w i).extractLsb' 4 4).toNat = nibble w (2 * i + 1) ∧
      ((byteOf w i).extractLsb' 0 4).toNat = nibble w (2 * i) := by
  constructor <;> refine congrArg BitVec.toNat (BitVec.eq_of_getLsbD_eq fun k hk => ?_)
  · simp [byteOf, hk, show 4 + k < 8 by omega, show 8 * i + (4 + k) = 4 * (2 * i + 1) + k by omega]
  · simp [byteOf, hk, show k < 8 by omega, show 8 * i + k = 4 * (2 * i) + k by omega]

theorem word64OfBE_append_singleton (bs : List Byte) (b : Byte) :
    word64OfBE (bs ++ [b]) = (word64OfBE bs <<< 8) ||| b.setWidth 64 := by
  simp [word64OfBE]

/-- The last byte of a string is the low byte of the register that holds it (R101). -/
theorem byteOf_word64OfBE_append (bs : List Byte) (b : Byte) :
    byteOf (word64OfBE (bs ++ [b])) 0 = b := by
  rw [word64OfBE_append_singleton]
  refine BitVec.eq_of_getLsbD_eq fun k hk => ?_
  simp [byteOf, hk, show k < 64 by omega]

/-- The bytes before the last one stand one byte, two nibbles, higher (R101). -/
theorem nibble_word64OfBE_append (bs : List Byte) (b : Byte) {j : Nat} (hj : j + 2 < 16) :
    nibble (word64OfBE (bs ++ [b])) (j + 2) = nibble (word64OfBE bs) j := by
  rw [word64OfBE_append_singleton]
  refine congrArg BitVec.toNat (BitVec.eq_of_getLsbD_eq fun k hk => ?_)
  have hshift : 4 * (j + 2) + k - 8 = 4 * j + k := by omega
  simp [-BitVec.getLsbD_eq_getElem, hk, hshift, show 4 * (j + 2) + k < 64 by omega,
    show ¬ 4 * (j + 2) + k < 8 by omega, BitVec.getLsbD_of_ge b (4 * (j + 2) + k) (by omega)]

/-! Encoding. -/

/-- `digits(v)` has at most n bytes of two digits exactly when v < 10^(2n) (R100). -/
theorem digits_length_le_two_mul_iff {n v : Nat} (hn : 1 ≤ n) :
    (digits v).length ≤ 2 * n ↔ v < 10 ^ (2 * n) := by
  have h := digits_length_le_iff (2 * n - 1) v
  rwa [Nat.sub_add_cancel (by omega)] at h

theorem bcdEncode_of_lt {n v : Nat} (hn : 1 ≤ n) (hv : v < 10 ^ (2 * n)) :
    bcdEncode v n = some (bcdBytes v n) :=
  if_pos ((digits_length_le_two_mul_iff hn).mpr hv)

theorem bcdEncode_of_le {n v : Nat} (hn : 1 ≤ n) (hv : 10 ^ (2 * n) ≤ v) : bcdEncode v n = none :=
  if_neg fun h => Nat.not_lt.mpr hv ((digits_length_le_two_mul_iff hn).mp h)

theorem packDigits_append_pair {n : Nat} {ds : List Nat} (hlen : ds.length = 2 * n) (hi lo : Nat) :
    packDigits (ds ++ [hi, lo]) = packDigits ds ++ [digitPair hi lo] := by
  induction n generalizing ds with
  | zero => rw [List.eq_nil_of_length_eq_zero hlen]; rfl
  | succ n ih =>
    match ds, hlen with
    | a :: b :: rest, hlen =>
      have hrest : rest.length = 2 * n := by simp at hlen; omega
      simp [packDigits, ih hrest]

/-- The last digit, and before it those of v / 10, padded to one digit less (R100). -/
theorem paddedDigits_eq_div_append_mod (v k : Nat) :
    paddedDigits v (k + 2) = paddedDigits (v / 10) (k + 1) ++ [v % 10] := by
  rw [← paddedDigits_step (by omega), Nat.div_add_mod']

theorem div_hundred_lt {n v : Nat} (hv : v < 10 ^ (2 * (n + 1))) : v / 100 < 10 ^ (2 * n) :=
  Nat.div_lt_of_lt_mul (by rwa [Nat.mul_succ, Nat.pow_add, Nat.mul_comm] at hv)

/-- One more byte holds the last two digits; the bytes before it are those of v / 100 (R100). -/
theorem bcdBytes_succ {n v : Nat} (hv : v < 10 ^ (2 * (n + 1))) :
    bcdBytes v (n + 1) = bcdBytes (v / 100) n ++ [digitPair (v / 10 % 10) (v % 10)] := by
  cases n with
  | zero =>
    have hv10 : v / 10 < 10 := by simp at hv; omega
    have h100 : v / 100 = 0 := by simp at hv; omega
    rw [bcdBytes_eq, paddedDigits_eq_div_append_mod v 0, paddedDigits, digits_small hv10, h100,
      Nat.mod_eq_of_lt hv10]
    rfl
  | succ n =>
    have hlen := paddedDigits_length
      ((digits_length_le_two_mul_iff (Nat.le_add_left 1 n)).mpr (div_hundred_lt hv))
    have hpair : paddedDigits v (2 * (n + 1 + 1)) =
        paddedDigits (v / 100) (2 * (n + 1)) ++ [v / 10 % 10, v % 10] := by
      rw [show 2 * (n + 1 + 1) = 2 * n + 2 + 2 by omega, paddedDigits_eq_div_append_mod,
        paddedDigits_eq_div_append_mod, Nat.div_div_eq_div_mul, List.append_assoc]
      rfl
    rw [bcdBytes_eq, hpair, packDigits_append_pair hlen, bcdBytes_eq]

/-- Nibble j of the register is digit j of the value, and 0 above its digits (R100, R101). -/
theorem nibble_word64OfBE_bcdBytes {n v : Nat} (hv : v < 10 ^ (2 * n)) {j : Nat} (hj : j < 16) :
    nibble (word64OfBE (bcdBytes v n)) j = v / 10 ^ j % 10 := by
  induction n generalizing v j with
  | zero =>
    obtain rfl : v = 0 := by simpa using hv
    have hnil : word64OfBE (bcdBytes 0 0) = 0 := rfl
    simp [hnil]
  | succ n ih =>
    obtain ⟨hhi, hlo⟩ := digitPair_nibbles (hi := v / 10 % 10) (lo := v % 10) (by omega) (by omega)
    rw [bcdBytes_succ hv]
    match j with
    | 0 =>
      rw [← Nat.mul_zero 2, ← (nibbles_byteOf _ 0).2, byteOf_word64OfBE_append, hlo]; simp
    | 1 =>
      rw [← (nibbles_byteOf _ 0).1, byteOf_word64OfBE_append, hhi]; simp
    | j + 2 =>
      rw [nibble_word64OfBE_append _ _ hj, ih (div_hundred_lt hv) (by omega), Nat.div_div_eq_div_mul,
        Nat.pow_add, Nat.mul_comm 100]

/-! Decoding. -/

theorem lowBytesBE_succ (w : Word64) (n : Nat) :
    lowBytesBE w (n + 1) = byteOf w n :: lowBytesBE w n := by
  simp only [lowBytesBE, List.range_succ_eq_map, List.map_cons, List.map_map]
  refine congrArg _ (List.map_congr_left fun k _ => ?_)
  simp only [Function.comp_apply]
  congr 1; omega

@[simp] theorem lowBytesBE_length (w : Word64) (n : Nat) : (lowBytesBE w n).length = n := by
  simp [lowBytesBE]

theorem allDigits_cons_iff (b : Byte) (bs : List Byte) :
    allDigits (b :: bs) = true ↔
      ((b.extractLsb' 4 4).toNat ≤ 9 ∧ (b.extractLsb' 0 4).toNat ≤ 9) ∧ allDigits bs = true := by
  simp only [allDigits, List.all_cons, Bool.and_eq_true, decide_eq_true_eq]

/-- The bytes that BCD_DEC reads are digits exactly if the low 2n nibbles are (R104). -/
theorem allDigits_lowBytesBE_iff (w : Word64) (n : Nat) :
    allDigits (lowBytesBE w n) = true ↔ ∀ j < 2 * n, nibble w j ≤ 9 := by
  induction n with
  | zero => simp [lowBytesBE, allDigits]
  | succ n ih =>
    obtain ⟨hhi, hlo⟩ := nibbles_byteOf w n
    rw [lowBytesBE_succ, allDigits_cons_iff, hhi, hlo, ih, Nat.mul_succ, Nat.forall_lt_succ_right,
      Nat.forall_lt_succ_right]
    tauto

/-- A byte string decodes only if every nibble is a digit (R103). -/
theorem allDigits_of_bcdDecodeFrom {bs : List Byte} {v w : Nat} (h : bcdDecodeFrom v bs = some w) :
    allDigits bs = true := by
  induction bs generalizing v with
  | nil => rfl
  | cons b bs ih =>
    rw [bcdDecodeFrom] at h
    split at h
    · rename_i d hd
      obtain ⟨hi, lo, hhi, hlo, -, rfl⟩ := digitsOfByte_some hd
      obtain ⟨h1, h2⟩ := digitPair_nibbles (hi := hi) (lo := lo) (by omega) (by omega)
      exact (allDigits_cons_iff _ _).mpr ⟨by omega, ih h⟩
    · cases h

/-- A nibble above 9 is DigitError (R103). -/
theorem bcdDecode_eq_none {bs : List Byte} (h : allDigits bs = false) : bcdDecode bs = none := by
  refine Option.eq_none_iff_forall_ne_some.mpr fun v hv => ?_
  simp [allDigits_of_bcdDecodeFrom hv] at h

/-- The number that the low k nibbles of a register spell in decimal (R104). -/
def nibbleValue (w : Word64) (k : Nat) : Nat :=
  ((List.range k).map fun j => nibble w j * 10 ^ j).sum

theorem nibbleValue_succ (w : Word64) (k : Nat) :
    nibbleValue w (k + 1) = nibbleValue w k + nibble w k * 10 ^ k := by
  simp only [nibbleValue, List.range_succ, List.map_append, List.map_cons, List.map_nil,
    List.sum_append, List.sum_singleton]

/-- The bytes read from a register continue the value by its low 2n digits (R103, R104). -/
theorem bcdDecodeFrom_lowBytesBE {w : Word64} {n : Nat} (h : ∀ j < 2 * n, nibble w j ≤ 9) (v : Nat) :
    bcdDecodeFrom v (lowBytesBE w n) = some (v * 10 ^ (2 * n) + nibbleValue w (2 * n)) := by
  induction n generalizing v with
  | zero => simp [lowBytesBE, bcdDecodeFrom, nibbleValue]
  | succ n ih =>
    obtain ⟨hhi, hlo⟩ := nibbles_byteOf w n
    have hbyte : digitsOfByte (byteOf w n) = some (nibble w (2 * n + 1) * 10 + nibble w (2 * n)) := by
      rw [digitsOfByte, hhi, hlo]
      exact if_pos ⟨h _ (by omega), h _ (by omega)⟩
    rw [lowBytesBE_succ, bcdDecodeFrom, hbyte]
    simp only [ih fun j hj => h j (by omega)]
    rw [show 2 * (n + 1) = 2 * n + 1 + 1 by omega, nibbleValue_succ, nibbleValue_succ]
    congr 1; ring

/-- BCD_DEC reads the number that the low 2n nibbles spell, if they are digits (R104). -/
theorem bcdDecode_lowBytesBE {w : Word64} {n : Nat} (h : ∀ j < 2 * n, nibble w j ≤ 9) :
    bcdDecode (lowBytesBE w n) = some (nibbleValue w (2 * n)) :=
  (bcdDecodeFrom_lowBytesBE h 0).trans (by rw [Nat.zero_mul, Nat.zero_add])

/-- The number fits RES_VALUE: at most eight bytes are at most 16 digits (R104). -/
theorem nibbleValue_lt {w : Word64} {n : Nat} (hn : n ≤ 8) (h : ∀ j < 2 * n, nibble w j ≤ 9) :
    nibbleValue w (2 * n) < 2 ^ 64 := by
  obtain ⟨hlt, -⟩ := bcdDecode_some (bcdDecode_lowBytesBE h)
  rw [lowBytesBE_length] at hlt
  calc nibbleValue w (2 * n) < 10 ^ (2 * n) := hlt
    _ ≤ 10 ^ 16 := Nat.pow_le_pow_right (by omega) (by omega)
    _ ≤ 2 ^ 64 := by norm_num

/-! The operations. -/

/-- The ARG domain of BCD_ENC and BCD_DEC (R82, R101). -/
theorem byteLenOk_iff (n : Byte) : byteLenOk n = true ↔ 1 ≤ n.toNat ∧ n.toNat ≤ 8 := by
  simp only [byteLenOk, Bool.and_eq_true, decide_eq_true_eq]
  exact Iff.rfl

theorem exec_bcdEnc_idle {n : Byte} {s : State} (hidle : s.core.active = false)
    (hn : 1 ≤ n.toNat ∧ n.toNat ≤ 8) :
    exec (.bcdEnc n) s = .next (s.withCore (bcdEncRule n.toNat s.core)) :=
  (if_pos (by rwa [byteLenLegal_eq, byteLenOk_iff])).trans (hostOp_idle hidle _)

theorem exec_bcdDec_idle {n : Byte} {s : State} (hidle : s.core.active = false)
    (hn : 1 ≤ n.toNat ∧ n.toNat ≤ 8) :
    exec (.bcdDec n) s = .next (s.withCore (bcdDecRule s.params n.toNat s.core)) :=
  (if_pos (by rwa [byteLenLegal_eq, byteLenOk_iff])).trans (hostOp_idle hidle _)

theorem exec_bcdEnc_illegal {n : Byte} {s : State} (hn : ¬ (1 ≤ n.toNat ∧ n.toNat ≤ 8)) :
    exec (.bcdEnc n) s = .next (s.withCore (withErr s.core .illegalOp)) :=
  if_neg (by rwa [byteLenLegal_eq, byteLenOk_iff])

theorem exec_bcdDec_illegal {n : Byte} {s : State} (hn : ¬ (1 ≤ n.toNat ∧ n.toNat ≤ 8)) :
    exec (.bcdDec n) s = .next (s.withCore (withErr s.core .illegalOp)) :=
  if_neg (by rwa [byteLenLegal_eq, byteLenOk_iff])

/-- Settles O16: both directions are the laws of `bcdBytes`; the value of a string fits its length. -/
theorem bcdRoundTrip : Obligations.BcdRoundTrip := by
  unfold Obligations.BcdRoundTrip
  constructor
  · intro n v hn hv
    exact ⟨_, bcdEncode_of_lt hn hv, bcdDecode_bcdBytes ((digits_length_le_two_mul_iff hn).mpr hv)⟩
  · intro bs hne hdigits
    obtain ⟨v, hv⟩ := bcdDecode_of_allDigits hdigits
    obtain ⟨hlt, hbytes⟩ := bcdDecode_some hv
    refine ⟨v, hv, ?_⟩
    rw [bcdEncode_of_lt (List.length_pos_iff.mpr hne) hlt, hbytes hne]

/-- Settles O14: RES_BCD holds the bytes of the value, and its nibbles are the digits
(`nibble_word64OfBE_bcdBytes`). -/
theorem bcdEncodeResult : Obligations.BcdEncodeResult := by
  unfold Obligations.BcdEncodeResult
  refine ⟨?_, ?_, fun n s hn => exec_bcdEnc_illegal hn⟩
  · intro n s hidle hpos hmax hv
    refine ⟨word64OfBE (bcdBytes s.core.opnd.value.toNat n.toNat), ?_,
      fun j hj => nibble_word64OfBE_bcdBytes hv hj⟩
    rw [exec_bcdEnc_idle hidle ⟨hpos, hmax⟩, bcdEncRule, bcdEncode_of_lt hpos hv]
    rfl
  · intro n s hidle hpos hmax hv
    rw [exec_bcdEnc_idle hidle ⟨hpos, hmax⟩, bcdEncRule, bcdEncode_of_le hpos hv]
    rfl

/-- Settles O15: the low bytes decode to the number that the nibbles spell (`bcdDecode_lowBytesBE`),
which fits RES_VALUE (`nibbleValue_lt`). -/
theorem bcdDecodeResult : Obligations.BcdDecodeResult := by
  unfold Obligations.BcdDecodeResult
  refine ⟨?_, ?_, fun n s hn => exec_bcdDec_illegal hn⟩
  · intro n s hidle hpos hmax hdigits
    refine ⟨resultValue s.params (nibbleValue s.core.opnd.bcd (2 * n.toNat)), ?_, ?_⟩
    · rw [exec_bcdDec_idle hidle ⟨hpos, hmax⟩, bcdDecRule, CoreState.bcdOperand,
        bcdDecode_lowBytesBE hdigits]
      rfl
    · rw [resultValue_eq, BitVec.toNat_ofNat]
      exact Nat.mod_eq_of_lt (nibbleValue_lt hmax hdigits)
  · intro n s hidle hpos hmax ⟨j, hj, hbad⟩
    have hnot : allDigits (s.core.bcdOperand n.toNat) = false :=
      Bool.eq_false_iff.mpr fun h =>
        Nat.not_lt.mpr ((allDigits_lowBytesBE_iff _ _).mp h j hj) hbad
    rw [exec_bcdDec_idle hidle ⟨hpos, hmax⟩, bcdDecRule, bcdDecode_eq_none hnot]
    rfl

end Sys2Proof.Machine
end

section
/-! SUPPORT. The CRC-16/Kermit register (R120 to R123): a shift is linear under XOR, so a value with a clear
low end is only shifted, and the low nibble alone decides what four shifts add. -/

namespace Sys2Proof

/-! Shifts of the bit-serial register. -/

/-- A shift adds the polynomial 0x8408 if the bit that falls out is 1 (R120). -/
theorem crcBit_eq_xor (c : Word16) :
    crcBit c = (c >>> 1) ^^^ (if c.getLsbD 0 then 0x8408#16 else 0#16) := by
  unfold crcBit
  split
  · rfl
  · exact BitVec.xor_zero.symm

/-- The bit that falls out of `a ^^^ b` is the XOR of theirs, and equal polynomials cancel. -/
theorem crcBit_xor (a b : Word16) : crcBit (a ^^^ b) = crcBit a ^^^ crcBit b := by
  have hpoly : (if (a ^^^ b).getLsbD 0 then 0x8408#16 else 0#16) =
      (if a.getLsbD 0 then 0x8408#16 else 0#16) ^^^ (if b.getLsbD 0 then 0x8408#16 else 0#16) := by
    rw [BitVec.getLsbD_xor]
    cases a.getLsbD 0 <;> cases b.getLsbD 0 <;> rfl
  rw [crcBit_eq_xor, hpoly, BitVec.ushiftRight_xor_distrib, crcBit_eq_xor a, crcBit_eq_xor b]
  ac_rfl

theorem crcBit_iterate_xor (n : Nat) (a b : Word16) :
    crcBit^[n] (a ^^^ b) = crcBit^[n] a ^^^ crcBit^[n] b := by
  induction n generalizing a b with
  | zero => rfl
  | succ n ih => rw [Function.iterate_succ_apply, crcBit_xor, ih]; rfl

/-- Shifts that drop only zero bits add no polynomial. -/
theorem crcBit_iterate_of_low_zero {n : Nat} {c : Word16} (h : ∀ k < n, c.getLsbD k = false) :
    crcBit^[n] c = c >>> n := by
  induction n generalizing c with
  | zero => rfl
  | succ n ih =>
    have hbit : crcBit c = c >>> 1 := if_neg (Bool.eq_false_iff.mp (h 0 n.succ_pos))
    have hlow : ∀ k < n, (c >>> 1).getLsbD k = false := fun k hk => by
      rw [BitVec.getLsbD_ushiftRight]; exact h (1 + k) (by omega)
    rw [Function.iterate_succ_apply, hbit, ih hlow, ← BitVec.shiftRight_add, Nat.add_comm]

/-- A register that takes in its own low n bits keeps only what is above them. -/
theorem crcBit_iterate_xor_low (n : Nat) (c : Word16) :
    crcBit^[n] (c ^^^ (c.setWidth n).setWidth 16) = c >>> n := by
  have hlow : ∀ k < n, (c ^^^ (c.setWidth n).setWidth 16).getLsbD k = false := fun k hk => by
    simpa [hk] using BitVec.lt_of_getLsbD
  rw [crcBit_iterate_of_low_zero hlow, BitVec.ushiftRight_xor_distrib]
  ext k hk
  simp

/-- A zero register stays zero (R122). -/
theorem crcBit_iterate_zero (n : Nat) : crcBit^[n] 0 = 0 :=
  Function.iterate_fixed rfl n

theorem crcByte_eq_iterate (c : Word16) (b : Byte) :
    crcByte c b = crcBit^[8] (c ^^^ b.setWidth 16) := rfl

/-! The nibble form. -/

/-- The 16 entries of the nibble table are the multiples of 0x1081. -/
theorem crcBit_iterate_four_nibble :
    ∀ q : BitVec 4, crcBit^[4] (q.setWidth 16) = q.setWidth 16 * 0x1081#16 := by decide

theorem and_nibble_mask_eq_setWidth (c : Word16) : c &&& 0xF#16 = (c.setWidth 4).setWidth 16 := by
  have hmask : c.toNat &&& 15 = c.toNat % 16 := Nat.and_two_pow_sub_one_eq_mod c.toNat 4
  refine BitVec.eq_of_toNat_eq ?_
  rw [BitVec.toNat_and, BitVec.toNat_setWidth, BitVec.toNat_setWidth, BitVec.toNat_ofNat,
    Nat.mod_eq_of_lt (by decide : 15 < 2 ^ 16), hmask]
  omega

/-- Four shifts: the upper bits move down, the low nibble adds its table entry (R123). -/
theorem crcBit_iterate_four (c : Word16) :
    crcBit^[4] c = (c >>> 4) ^^^ ((c &&& 0xF#16) * 0x1081#16) := by
  have hlow := crcBit_iterate_xor_low 4 c
  rw [crcBit_iterate_xor, crcBit_iterate_four_nibble, ← and_nibble_mask_eq_setWidth] at hlow
  rw [← hlow, BitVec.xor_assoc, BitVec.xor_self, BitVec.xor_zero]

/-- The byte may enter nibble by nibble: what is left of it after four shifts is its upper nibble. -/
theorem crcByte_eq_crcNibbleByte (c : Word16) (b : Byte) : crcByte c b = crcNibbleByte c b := by
  have hbyte : (b.setWidth 16 : Word16) >>> 4 >>> 4 = 0#16 := by
    ext k hk
    simp
  have hfour (d x : Word16) :
      crcBit^[4] (d ^^^ x) = ((d >>> 4) ^^^ (((d ^^^ x) &&& 0xF#16) * 0x1081#16)) ^^^ (x >>> 4) := by
    rw [crcBit_iterate_four, BitVec.ushiftRight_xor_distrib]
    ac_rfl
  rw [crcByte_eq_iterate, Function.iterate_add_apply crcBit 4 4, hfour, hfour, hbyte, BitVec.xor_zero]
  rfl

theorem crc16_eq_crcNibble (bs : List Byte) : crc16 bs = crcNibble bs := by
  rw [crc16, crcFrom, crcNibble, funext fun c => funext (crcByte_eq_crcNibbleByte c)]

/-! The residue. -/

/-- The low byte of the register, taken in, clears the low end: only the upper byte is left. -/
theorem crcByte_low_byte (c : Word16) : crcByte c (c.extractLsb' 0 8) = c >>> 8 := by
  rw [crcByte_eq_iterate, ← BitVec.setWidth_eq_extractLsb' (by decide), crcBit_iterate_xor_low]

/-- The remaining byte, taken in, clears the register. -/
theorem crcByte_high_byte (c : Word16) : crcByte (c >>> 8) (c.extractLsb' 8 8) = 0 := by
  have hclear : (c >>> 8) ^^^ (c.extractLsb' 8 8).setWidth 16 = 0 := by
    ext k hk
    have hbit (h : c.getLsbD (8 + k) = true) : k < 8 := by
      have := BitVec.lt_of_getLsbD h
      omega
    simpa using hbit
  rw [crcByte_eq_iterate, hclear, crcBit_iterate_zero]

theorem crc16_append (bs cs : List Byte) : crc16 (bs ++ cs) = crcFrom (crc16 bs) cs :=
  List.foldl_append

/-- A sequence followed by its CRC, low byte first, has the CRC 0 (R123). -/
theorem crc16_append_crc (bs : List Byte) : crc16 (bs ++ le16 (crc16 bs)) = 0 := by
  calc crc16 (bs ++ le16 (crc16 bs))
      = crcByte (crcByte (crc16 bs) ((crc16 bs).extractLsb' 0 8)) ((crc16 bs).extractLsb' 8 8) :=
        crc16_append bs _
    _ = 0 := by rw [crcByte_low_byte, crcByte_high_byte]

/-- Settles O12: the residue is `crc16_append_crc`, the byte step `crcByte_eq_crcNibbleByte`. -/
theorem crcResidueAndNibbleForm : Obligations.CrcResidueAndNibbleForm := by
  unfold Obligations.CrcResidueAndNibbleForm
  exact ⟨crc16_append_crc, crcByte_eq_crcNibbleByte, crc16_eq_crcNibble⟩

/-- Settles O13: the check value, evaluated; its low byte 0x89 comes first (R121). -/
theorem crcCheckValue : Obligations.CrcCheckValue := by
  unfold Obligations.CrcCheckValue
  have hvalue : crc16 [0x31, 0x32, 0x33, 0x34, 0x35, 0x36, 0x37, 0x38, 0x39] = 0x2189 := by
    decide +kernel
  exact ⟨hvalue, by rw [hvalue]; decide⟩

end Sys2Proof

namespace Sys2Proof.Machine

/-- Settles O11: an idle CORE runs the rule; each source is the filled part of its buffer (R122). -/
theorem crcOperationResult : Obligations.CrcOperationResult := by
  unfold Obligations.CrcOperationResult
  intro src s hidle
  refine (hostOp_idle hidle _).trans ?_
  cases src with
  | pbuf => rfl
  | txbuf => rfl
  | rxbuf => rfl

end Sys2Proof.Machine
end

section
/-! SUPPORT. The frames that the CORE writes into TXBUF (R140, R141, R147): each is a built frame with its own
address, put there by one load, and a built frame meets the frame invariants. -/

namespace Sys2Proof.Machine

/-! Built frames. -/

@[simp] theorem CoreState.payload_length (c : CoreState) : c.payload.length = c.buf.plen.toNat :=
  Memory.readRange_length _ _ _

/-- A built frame meets the invariants of R147: its last two bytes are the CRC of the body before them. -/
theorem frameInvariants_buildFrame (a c : Byte) {p : List Byte} (h : p.length ≤ 255) :
    FrameInvariants a (buildFrame a c p) := by
  obtain ⟨haddr, -, hdeclared⟩ := buildFrame_head a c p
  have hlen := buildFrame_length a c p
  have hbody : (buildFrame a c p).length - 2 = (frameBody a c p).length := by simp [frameBody]
  refine ⟨by omega, haddr, ?_, ?_⟩
  · rw [hdeclared, hlen, BitVec.toNat_ofNat]
    omega
  · rw [hbody, buildFrame, List.drop_left, List.take_left]

/-- A frame of at most 260 bytes put in TXBUF is the frame to transmit (R141). -/
theorem CoreState.loadTx_txFrame {c : CoreState} (hc : MemoriesCanonical c) (p : Params) {f : List Byte}
    (hf : f.length ≤ 260) : (c.loadTx p f).txFrame = f := by
  obtain ⟨-, htx, -, -⟩ := hc
  rw [CoreState.txFrame, CoreState.loadTx_txlen p c hf, CoreState.loadTx_eq]
  exact Memory.readRange_writeRange htx f hf

/-! Which reactions write TXBUF. -/

/-- d has the configuration of c, and in TXBUF the frame f, built with the address of c and loaded over what c
has in TXBUF. -/
structure LoadsBuilt (p : Params) (c : CoreState) (f : List Byte) (d : CoreState) : Prop where
  built : ∃ (command : Byte) (payload : List Byte), f = buildFrame c.cfg.addr command payload
  fits : f.length ≤ 260
  cfg : d.cfg = c.cfg
  loaded : SameTx (c.loadTx p f) d

/-- The load leaves the built frame as the frame to transmit. -/
theorem LoadsBuilt.invariants {p : Params} {c d : CoreState} {f : List Byte} (hc : MemoriesCanonical c)
    (h : LoadsBuilt p c f d) : FrameInvariants d.cfg.addr d.txFrame := by
  obtain ⟨⟨command, payload, rfl⟩, hfits, hcfg, htxbuf, htxlen⟩ := h
  have hframe : d.txFrame = buildFrame c.cfg.addr command payload := by
    rw [CoreState.txFrame, htxbuf, htxlen]
    exact CoreState.loadTx_txFrame hc p hfits
  rw [buildFrame_length] at hfits
  rw [hframe, hcfg]
  exact frameInvariants_buildFrame _ _ (by omega)

/-- What follows the load within a reaction writes neither CFG_ADDR nor TXBUF. -/
theorem LoadsBuilt.of_frame {p : Params} {c d e : CoreState} {f : List Byte} (h : LoadsBuilt p c f d)
    (hf : ExchangeFrame d e) : LoadsBuilt p c f e where
  built := h.built
  fits := h.fits
  cfg := hf.cfg.trans h.cfg
  loaded := ⟨hf.sameTx.1.trans h.loaded.1, hf.sameTx.2.trans h.loaded.2⟩

theorem LoadsBuilt.registration (p : Params) (c : CoreState) :
    LoadsBuilt p c (registrationFrame p c) (c.loadTx p (registrationFrame p c)) :=
  ⟨⟨0x73, _, rfl⟩, (registrationFrame_length p c).trans_le (by decide), CoreState.loadTx_cfg p c _,
    rfl, rfl⟩

theorem LoadsBuilt.transfer (p : Params) (c : CoreState) (t : TransferType) (amount : Word64)
    (id : Word32) : LoadsBuilt p c (transferFrame p c t amount.toNat id)
      (c.loadTx p (transferFrame p c t amount.toNat id)) :=
  ⟨⟨0x72, _, rfl⟩, transferFrame_length_le p c t amount.isLt id, CoreState.loadTx_cfg p c _,
    rfl, rfl⟩

theorem LoadsBuilt.balanceQuery (p : Params) (c : CoreState) :
    LoadsBuilt p c (balanceQueryFrame c) (c.loadTx p (balanceQueryFrame c)) :=
  ⟨⟨0x74, [], rfl⟩, by simp, CoreState.loadTx_cfg p c _, rfl, rfl⟩

/-- Only CFG_* and the memories of the earlier state matter: a load may follow changes of other fields. -/
theorem LoadsBuilt.of_same {p : Params} {c c' d : CoreState} {f : List Byte} (h : LoadsBuilt p c f d)
    (hcfg : c.cfg = c'.cfg) (hbuf : c.buf = c'.buf) : LoadsBuilt p c' f d where
  built := hcfg ▸ h.built
  fits := h.fits
  cfg := h.cfg.trans hcfg
  loaded := by
    have hload : (c.loadTx p f).buf = (c'.loadTx p f).buf := by
      simp only [CoreState.loadTx_eq, CoreState.withBuf_buf, hbuf]
    rw [SameTx, ← hload]
    exact h.loaded

/-- d has the TXBUF and the TXLEN of c, or a built frame was loaded. -/
def KeepsTxOrLoads (p : Params) (c d : CoreState) : Prop := SameTx c d ∨ ∃ f, LoadsBuilt p c f d

/-- Of the host operations, the four builders and AFT_START load a frame (R141, R180, R183, R186, R250). -/
theorem HostRule.tx {p : Params} {rule : CoreState → CoreState} (h : HostRule p rule) (c : CoreState) :
    KeepsTxOrLoads p c (rule c) := by
  have hkept : SameTx c c := ⟨rfl, rfl⟩
  cases h with
  | crc16 src => exact .inl hkept
  | bcdEnc n => unfold bcdEncRule; split <;> exact .inl hkept
  | bcdDec n => unfold bcdDecRule; split <;> exact .inl hkept
  | frameParse => unfold frameParseRule; split <;> exact .inl hkept
  | meterParse => unfold meterParseRule; split <;> exact .inl hkept
  | balParse =>
    unfold balParseRule
    split
    · rename_i d hd
      exact .inl (ExchangeFrame.balanceBody hd).sameTx
    · exact .inl hkept
  | xchg => exact .inl (ExchangeFrame.startExchange _ .standalone).sameTx
  | aftClear => unfold aftClearRule; split <;> exact .inl hkept
  | frameBuild command =>
    have hplen := c.buf.plen.isLt
    exact .inr ⟨buildFrame c.cfg.addr command c.payload, ⟨command, c.payload, rfl⟩,
      by simp; omega, rfl, rfl, rfl⟩
  | buildReg => exact .inr ⟨_, (LoadsBuilt.registration p c).of_frame (.raise _ .ok)⟩
  | buildXfer t =>
    unfold buildXferRule
    split
    · exact .inl hkept
    · exact .inr ⟨_, (LoadsBuilt.transfer p c t _ _).of_frame (.raise _ .ok)⟩
  | buildBalq => exact .inr ⟨_, (LoadsBuilt.balanceQuery p c).of_frame (.raise _ .ok)⟩
  | aftStart t =>
    rcases aftStartRule_cases p t c with ⟨-, heq⟩ | ⟨-, heq⟩ | ⟨-, heq⟩ <;> rw [heq]
    · exact .inl hkept
    · exact .inl hkept
    · have hloaded :=
        (LoadsBuilt.registration p (c.latchRequest t).snapshot).of_same (c' := c) rfl rfl
      exact .inr ⟨_, (hloaded.of_frame (.withStatus _ _)).of_frame (.startExchange _ _)⟩

/-- ENTER_TRANSFERRING loads the transfer frame (R256). -/
theorem CoreState.enterTransferring_loads (p : Params) (c : CoreState) :
    ∃ f, LoadsBuilt p c f (c.enterTransferring p) := by
  let d := (c.withTxidLast (c.txidLast + 1)).withReq { c.req with txid := c.txidLast + 1 }
  have hloaded :=
    (LoadsBuilt.transfer p d d.req.type d.req.amount (c.txidLast + 1)).of_same (c' := c) rfl rfl
  unfold CoreState.enterTransferring
  exact ⟨_, ((hloaded.of_frame (.withSeqInfo _ _)).of_frame (.withStatus _ _)).of_frame
    (.startExchange _ _)⟩

/-- ENTER_VERIFY loads the balance query (R257). -/
theorem CoreState.enterVerify_loads (p : Params) (c : CoreState) :
    ∃ f, LoadsBuilt p c f (c.enterVerify p) := by
  have hloaded := (LoadsBuilt.balanceQuery p (c.withSeqInfo { c.seqInfo with pollsDone := 0 })).of_same
    (c' := c) rfl rfl
  exact ⟨_, (hloaded.of_frame (.withStatus _ _)).of_frame (.startExchange _ _)⟩

/-- Of the ticks, only the ends of the two settle waits load a frame (R242, R256, R257). -/
theorem CoreState.tick_tx (p : Params) (c : CoreState) : KeepsTxOrLoads p c (c.tick p) := by
  let d := c.withElapsed (c.elapsed.tick c.status.seq)
  rcases CoreState.tick_cases p c with
    ⟨-, -, heq⟩ | ⟨-, -, heq⟩ | ⟨-, -, heq⟩ | ⟨-, -, heq⟩ <;> rw [heq]
  · exact .inl ⟨rfl, rfl⟩
  · exact .inl (ExchangeFrame.endRead p d.tickTimer _).sameTx
  · rcases CoreState.tickWait_cases p d with ⟨-, -, heq⟩ | ⟨-, -, heq⟩ | ⟨-, -, heq⟩ | heq <;> rw [heq]
    · obtain ⟨f, hf⟩ := d.tickTimer.enterTransferring_loads p
      exact .inr ⟨f, hf.of_same rfl rfl⟩
    · obtain ⟨f, hf⟩ := d.tickTimer.enterVerify_loads p
      exact .inr ⟨f, hf.of_same rfl rfl⟩
    · exact .inl (ExchangeFrame.startExchange d.tickTimer .sequencer).sameTx
    · exact .inl ⟨rfl, rfl⟩
  · exact .inl ⟨rfl, rfl⟩

/-- A reaction keeps TXBUF and TXLEN or loads one built frame. -/
theorem Reaction.tx {p : Params} {c d : CoreState} (h : Reaction p c d) : KeepsTxOrLoads p c d := by
  cases h with
  | wire h => exact .inl (WireStep.run_locked h).2
  | raise e => exact .inl ⟨rfl, rfl⟩
  | operation hrule hidle => exact hrule.tx c
  | cancel => exact .inl (ExchangeFrame.aftCancelRule c).sameTx
  | writeReg n v =>
    obtain ⟨cfg, opnd, plen, rxlen, heq⟩ := c.writeReg_eq n v
    rw [heq]
    exact .inl ⟨rfl, rfl⟩
  | writeMem m i b =>
    obtain ⟨pbuf, rxbuf, keybuf, heq⟩ := c.writeMem_eq p m i b
    rw [heq]
    exact .inl ⟨rfl, rfl⟩
  | chanErr => exact .inl (ExchangeFrame.chanErr p c).sameTx
  | tick => exact c.tick_tx p

/-- Settles O57: what changed TXBUF or TXLEN loaded a built frame, which meets the invariants. -/
theorem writtenFramesKeepTheFrameInvariants : Obligations.WrittenFramesKeepTheFrameInvariants := by
  unfold Obligations.WrittenFramesKeepTheFrameInvariants
  intro s t hc hreset h hchanged
  rcases step_reaction h with ⟨hr, -⟩ | hr
  · simp [hr] at hreset
  · rcases hr.tx with ⟨htxbuf, htxlen⟩ | ⟨f, hf⟩
    · rcases hchanged with hne | hne
      · exact absurd htxbuf hne
      · exact absurd htxlen hne
    · exact ⟨by rw [hf.cfg], hf.invariants hc⟩

end Sys2Proof.Machine
end

section
/-! SUPPORT. FRAME_BUILD, FRAME_PARSE and the way from one to the other through the buffers (R140 to R146). -/

namespace Sys2Proof.Machine

/-! FRAME_BUILD. -/

/-- The length byte of the payload's frame is PLEN. -/
theorem CoreState.ofNat_payload_length (c : CoreState) :
    BitVec.ofNat 8 c.payload.length = c.buf.plen := by
  rw [CoreState.payload_length, BitVec.ofNat_toNat, BitVec.setWidth_eq]

/-- Settles O17: the frame of R140 is the one written out (`buildFrame_eq_frameOf`), and TXBUF reads as it
does after MemWrite. -/
theorem frameBuildResult : Obligations.FrameBuildResult := by
  unfold Obligations.FrameBuildResult
  intro c s hc hidle
  obtain ⟨-, htx, -, -⟩ := hc
  have hframe : buildFrame s.core.cfg.addr c s.core.payload =
      frameOf s.core.cfg.addr c s.core.buf.plen s.core.payload :=
    buildFrame_eq_frameOf s.core.ofNat_payload_length
  have hlen : (buildFrame s.core.cfg.addr c s.core.payload).length = s.core.buf.plen.toNat + 5 := by
    simp
  have hplen := s.core.buf.plen.isLt
  have htxlen : BitVec.ofNat 9 (s.core.buf.plen.toNat + 5) = s.core.buf.plen.setWidth 9 + 5 :=
    BitVec.eq_of_toNat_eq (by simp)
  rw [← hframe]
  refine ⟨Memory.writeRange Config.frameMax s.core.buf.txbuf 0
    (buildFrame s.core.cfg.addr c s.core.payload), ?_, Memory.writeRange_wf htx _ _, ?_, ?_⟩
  · refine (hostOp_idle hidle _).trans ?_
    rw [frameBuildRule, CoreState.loadTx_eq, hlen, htxlen]
    rfl
  · intro a
    have hfit : (0 : Nat) + (s.core.buf.plen.toNat + 5) ≤ Config.frameMax := by
      rw [Config.frameMax]; omega
    rw [Memory.read_writeRange htx 0 _ (hlen ▸ hfit), hlen, byteAt]
    simp
  · rintro rfl
    rfl

/-! FRAME_PARSE. -/

/-- A received byte that RXLEN counts is the byte in RXBUF. -/
theorem CoreState.byteAt_rxBytes {c : CoreState} {i : Nat} (h : i < c.buf.rxlen.toNat) :
    byteAt c.rxBytes i = Memory.read c.buf.rxbuf i := by
  rw [byteAt, CoreState.rxBytes, List.getD_eq_getElem _ _ (by simpa using h)]
  simp [Memory.readRange]

/-- PARSEOK of the received bytes, in the terms of RXBUF and RXLEN (R144). -/
theorem CoreState.parseOk_rxBytes_iff (c : CoreState) :
    parseOk c.rxBytes = true ↔ 3 ≤ c.buf.rxlen.toNat ∧
      c.buf.rxlen.toNat = (Memory.read c.buf.rxbuf 2).toNat + 5 := by
  have hlen : c.rxBytes.length = c.buf.rxlen.toNat := Memory.readRange_length _ _ _
  rw [parseOk_iff, IsFrame, hlen]
  exact and_congr_right fun h => by rw [CoreState.byteAt_rxBytes h]

section
variable {s : State}

/-- FRAME_PARSE of a consistent frame takes its first three bytes (R143). -/
theorem exec_frameParse_ok (hidle : s.core.active = false) (h : parseOk s.core.rxBytes = true) :
    exec .frameParse s = .next (s.withCore (withErr (s.core.withRes { s.core.res with
      frameAddr := byteAt s.core.rxBytes 0
      frameCmd := byteAt s.core.rxBytes 1
      frameLen := byteAt s.core.rxBytes 2 }) .ok)) := by
  refine (hostOp_idle hidle _).trans ?_
  rw [frameParseRule, if_pos h]
  rfl

theorem exec_frameParse_error (hidle : s.core.active = false) (h : ¬ parseOk s.core.rxBytes = true) :
    exec .frameParse s = .next (s.withCore (withErr s.core .frameError)) := by
  refine (hostOp_idle hidle _).trans ?_
  rw [frameParseRule, if_neg h]
  rfl

end

/-- Settles O18: the two cases are PARSEOK and its negation, read off RXBUF and RXLEN. -/
theorem frameParseResult : Obligations.FrameParseResult := by
  unfold Obligations.FrameParseResult
  constructor
  · intro s hidle hmin hlen
    rw [exec_frameParse_ok hidle (s.core.parseOk_rxBytes_iff.mpr ⟨hmin, hlen⟩)]
    simp (disch := omega) only [CoreState.byteAt_rxBytes]
  · intro s hidle hbad
    refine exec_frameParse_error hidle fun h => ?_
    obtain ⟨hmin, hlen⟩ := s.core.parseOk_rxBytes_iff.mp h
    omega

/-- The payload of a built frame stands behind its three header bytes. -/
theorem slice_buildFrame (a c : Byte) (p : List Byte) :
    slice (buildFrame a c p) 3 (3 + p.length) = p :=
  slice_of_append (a := [a, c, BitVec.ofNat 8 p.length]) rfl rfl rfl

/-- Settles O19: the frame that FRAME_BUILD leaves is built from PBUF, so it is consistent, and its header
and payload are what it was built from. -/
theorem frameRoundTripThroughTheBuffers : Obligations.FrameRoundTripThroughTheBuffers := by
  unfold Obligations.FrameRoundTripThroughTheBuffers
  intro c s t u hc hidle hplen hbuild hidleParse hcopied
  have hlen := s.core.payload_length
  cases (hostOp_idle hidle _).symm.trans hbuild
  have hrx : u.core.rxBytes = buildFrame s.core.cfg.addr c s.core.payload :=
    hcopied.trans (CoreState.loadTx_txFrame hc s.params (by simp; omega))
  have hparse : parseOk u.core.rxBytes = true := by
    rw [hrx]
    exact parseOk_buildFrame _ _ _ (by omega)
  obtain ⟨haddr, hcommand, hdeclared⟩ := buildFrame_head s.core.cfg.addr c s.core.payload
  rw [← hrx] at haddr hcommand hdeclared
  refine ⟨_, exec_frameParse_ok hidleParse hparse, rfl, haddr, hcommand,
    hdeclared.trans s.core.ofNat_payload_length, ?_⟩
  have hpayload := slice_buildFrame s.core.cfg.addr c s.core.payload
  rw [← hrx, hlen] at hpayload
  exact hpayload

end Sys2Proof.Machine
end

section
/-! SUPPORT. METER_PARSE on any content of RXBUF (R160 to R166): what the loop does with complete entries, where
it stops, and how many entries it can store. -/

namespace Sys2Proof.Machine

/-! How many entries the loop stores. -/

theorem MeterTable.length_set_le (t : MeterTable) (c : Nat) (v : Word64) :
    (MeterTable.set t c v).length ≤ t.length + 1 := by
  fun_induction MeterTable.set t c v with
  | case4 a w t c v _ _ ih => exact Nat.succ_le_succ ih
  | _ => simp

/-- Every entry stored uses up one of the attempts that CFG_MCAP allows (R166). -/
theorem meterScan_length_le (p : Params) (fuel : Nat) (region : List Byte) (attempts : Nat)
    (t : MeterTable) : (meterScan p fuel region attempts t).1.length ≤ t.length + attempts := by
  fun_induction meterScan p fuel region attempts t with
  | case3 _ _ _ _ ih => exact ih
  | case7 _ code attempts t _ hattempts _ l _ _ v _ ih =>
    have hset := MeterTable.length_set_le t code.toNat (resultValue p v)
    omega
  | _ => exact Nat.le_add_right _ _

theorem meterParse_length_le (p : Params) (cap : Nat) (bs : List Byte) :
    (meterParse p cap bs).1.length ≤ cap := by
  simpa [meterParse] using meterScan_length_le p _ (slice bs 3 (meterRegionEnd bs)) cap []

/-! Complete entries, and what stops the loop after them. -/

/-- A complete decimal entry, with an attempt left for it, is stored, and the loop goes on behind it (R160). -/
theorem meterScan_entry (p : Params) (fuel attempts : Nat) (t : MeterTable) {code reserved : Byte}
    {value : List Byte} {v : Nat} (hwf : (MeterItem.entry code reserved value).wf = true)
    (hv : bcdDecode value = some v) (rest : List Byte) :
    meterScan p (fuel + 1) ((MeterItem.entry code reserved value).bytes ++ rest) (attempts + 1) t =
      meterScan p fuel rest attempts (MeterTable.set t code.toNat (BitVec.ofNat 64 v)) := by
  obtain ⟨hcode, hpos, hmax⟩ := (MeterItem.wf_entry_iff ..).mp hwf
  have hl : (BitVec.ofNat 8 value.length).toNat = value.length := by
    rw [BitVec.toNat_ofNat]; omega
  simp only [MeterItem.bytes, List.cons_append, List.nil_append]
  rw [meterScan, if_neg hcode, if_neg (Nat.succ_ne_zero _)]
  simp only [hl, Fixed.val_eq, Config.maxMeterBytes, List.length_append, List.drop_left,
    List.take_left, hv, resultValue_eq, Nat.add_sub_cancel]
  exact if_neg (by omega)

/-- The loop stores well-formed decimal items and goes on with the bytes behind them, one turn for each
item and one attempt for each entry (R160). -/
theorem meterScan_items_append (p : Params) {items : List MeterItem} (fuel attempts : Nat)
    (t : MeterTable) (hwf : items.all MeterItem.wf = true)
    (hdigits : ∀ e ∈ meterEntries items, allDigits e.2 = true) (rest : List Byte) :
    meterScan p (fuel + items.length) (items.flatMap MeterItem.bytes ++ rest)
        (attempts + (meterEntries items).length) t =
      meterScan p fuel rest attempts (storeEntries t (meterEntries items)) := by
  induction items generalizing t with
  | nil => rfl
  | cons item items ih =>
    rw [List.all_cons, Bool.and_eq_true] at hwf
    obtain ⟨hitem, hitems⟩ := hwf
    rw [List.flatMap_cons, List.append_assoc, List.length_cons, ← Nat.add_assoc]
    cases item with
    | padding => exact (meterScan_padding p _ _ _ t).trans (ih t hitems hdigits)
    | entry code reserved value =>
      rw [meterEntries_entry] at hdigits ⊢
      obtain ⟨hvalue, hdigits⟩ := List.forall_mem_cons.mp hdigits
      obtain ⟨v, hv⟩ := bcdDecode_of_allDigits hvalue
      rw [List.length_cons, ← Nat.add_assoc, meterScan_entry p _ _ t hitem hv,
        storeEntries_cons t code value hv]
      exact ih _ hitems hdigits

/-- Bytes that do not start with a complete decimal entry of 1 to 9 value bytes (R162). -/
def MalformedMeterEntry (bs : List Byte) : Prop :=
  bs.length < 3 ∨ (byteAt bs 2).toNat = 0 ∨ 9 < (byteAt bs 2).toNat ∨
    bs.length < 3 + (byteAt bs 2).toNat ∨
    allDigits (slice bs 3 (3 + (byteAt bs 2).toNat)) = false

/-- The entry that the loop takes is complete and decimal. -/
theorem not_malformedMeterEntry {code reserved l : Byte} {value : List Byte} {v : Nat}
    (hl : ¬ (l.toNat = 0 ∨ l.toNat > 9 ∨ value.length < l.toNat))
    (hv : bcdDecode (value.take l.toNat) = some v) :
    ¬ MalformedMeterEntry (code :: reserved :: l :: value) := by
  have hlen : byteAt (code :: reserved :: l :: value) 2 = l := rfl
  have hvalue : slice (code :: reserved :: l :: value) 3 (3 + l.toNat) = value.take l.toNat := by
    rw [slice, Nat.add_comm]; rfl
  rw [MalformedMeterEntry, hlen, hvalue, allDigits_of_bcdDecodeFrom hv]
  simp only [List.length_cons, Bool.true_eq_false, or_false]
  omega

/-- At a byte other than padding, the loop ends with a partial result if no attempt is left or the entry
is malformed (R162, R166). -/
theorem meterScan_stops (p : Params) (fuel attempts : Nat) (t : MeterTable) {bad : List Byte}
    (hcode : byteAt bad 0 ≠ 0) (hstop : attempts = 0 ∨ MalformedMeterEntry bad) :
    meterScan p fuel bad attempts t = (t, true) := by
  fun_cases meterScan p fuel bad attempts t with
  | case1 => exact absurd rfl hcode
  | case3 => exact absurd rfl hcode
  | case7 _ _ _ _ _ hattempts _ l value hl v hv =>
    exact absurd (hstop.resolve_left hattempts)
      (not_malformedMeterEntry (by simpa [Config.maxMeterBytes] using hl) hv)
  | _ => rfl

/-! The operation. -/

theorem length_le_flatMap_bytes (items : List MeterItem) :
    items.length ≤ (items.flatMap MeterItem.bytes).length := by
  rw [List.length_flatMap]
  refine le_of_eq_of_le (List.length_map _).symm (List.length_le_sum_of_one_le _ fun n hn => ?_)
  obtain ⟨item, -, rfl⟩ := List.mem_map.mp hn
  cases item <;> simp [MeterItem.bytes]

/-- METER_PARSE of at least three bytes stores what the parse gives, with ERR = 0 (R160, R164). -/
theorem exec_meterParse_ok {s : State} {tab : MeterTable} {part : Bool}
    (hidle : s.core.active = false) (hlen : 3 ≤ s.core.rxBytes.length)
    (hparse : meterParse s.params s.core.cfg.mcap.toNat s.core.rxBytes = (tab, part)) :
    exec .meterParse s = .next (s.withCore
      ((s.core.withBuf { s.core.buf with
          mtab := tab, mcount := BitVec.ofNat 8 tab.length }).withStatus
        { s.core.status with err := .ok, partialResult := part })) := by
  refine (hostOp_idle hidle _).trans ?_
  rw [meterParseRule, if_neg (by omega), hparse]
  rfl

/-- METER_PARSE of fewer than three bytes clears the table and reports ResponseTooShort (R160, R164). -/
theorem exec_meterParse_short {s : State} (hidle : s.core.active = false)
    (hlen : s.core.rxBytes.length < 3) :
    exec .meterParse s = .next (s.withCore
      ((s.core.withBuf { s.core.buf with mtab := [], mcount := 0 }).withStatus
        { s.core.status with err := .responseTooShort, partialResult := false })) := by
  refine (hostOp_idle hidle _).trans ?_
  rw [meterParseRule, if_pos hlen]
  rfl

/-- Settles O20: fewer than three bytes are `exec_meterParse_short`; otherwise the table is the parse's,
canonical without code 0x00 (`meterParse_wf`) and no longer than CFG_MCAP (`meterParse_length_le`), so that
MCOUNT counts it without wrapping. -/
theorem meterParseNeverRaises : Obligations.MeterParseNeverRaises := by
  unfold Obligations.MeterParseNeverRaises
  intro s hidle
  have hrx : s.core.rxBytes.length = s.core.buf.rxlen.toNat := Memory.readRange_length _ _ _
  rcases Nat.lt_or_ge s.core.buf.rxlen.toNat 3 with hlen | hlen
  · refine ⟨[], 0, false, ?_, fun _ => ⟨rfl, rfl, rfl⟩, rfl, rfl, rfl, Nat.zero_le _⟩
    rw [if_pos hlen]
    exact exec_meterParse_short hidle (by omega)
  · rcases hparse : meterParse s.params s.core.cfg.mcap.toNat s.core.rxBytes with ⟨tab, part⟩
    have hwf := meterParse_wf s.params s.core.cfg.mcap.toNat s.core.rxBytes
    have hcap := meterParse_length_le s.params s.core.cfg.mcap.toNat s.core.rxBytes
    rw [hparse] at hwf hcap
    obtain ⟨hcanonical, hzero⟩ := hwf
    have hmcap := s.core.cfg.mcap.isLt
    have hcount : (BitVec.ofNat 8 tab.length).toNat = tab.length := by
      rw [BitVec.toNat_ofNat, Nat.mod_eq_of_lt (hcap.trans_lt hmcap)]
    refine ⟨tab, BitVec.ofNat 8 tab.length, part, ?_, fun h => absurd h (by omega), hcanonical, hzero,
      hcount, hcount.trans_le hcap⟩
    rw [if_neg (by omega)]
    exact exec_meterParse_ok hidle (by omega) hparse

/-- Settles O22: the loop goes through the complete entries (`meterScan_items_append`) and stops behind them
(`meterScan_stops`). -/
theorem malformedMeterEntryEndsTheParse : Obligations.MalformedMeterEntryEndsTheParse := by
  unfold Obligations.MalformedMeterEntryEndsTheParse
  intro s items bad hidle hwf hdigits hregion hcap hcode hstop
  obtain ⟨hlen, hparse⟩ := meterParse_of_region s.params s.core.cfg.mcap.toNat hregion
  refine exec_meterParse_ok hidle hlen (hparse.trans ?_)
  obtain ⟨fuel, hfuel⟩ : ∃ fuel, (items.flatMap MeterItem.bytes ++ bad).length = fuel + items.length := by
    have hitems := length_le_flatMap_bytes items
    exact Nat.exists_eq_add_of_le' (by rw [List.length_append]; omega)
  obtain ⟨attempts, hattempts⟩ := Nat.exists_eq_add_of_le' hcap
  rw [hfuel, hattempts, meterScan_items_append s.params fuel attempts [] hwf hdigits bad, meterTableOf_eq]
  exact meterScan_stops s.params fuel attempts _ hcode (hstop.imp_left fun h => by omega)

end Sys2Proof.Machine
end

section
/-! SUPPORT. The transaction id field of a 0x72 payload: its count, its digits in ASCII and the most
significant of them (R185). -/

namespace Sys2Proof

/-! The digits in ASCII. -/

theorem asciiDigit_toNat {d : Nat} (h : d < 10) : (asciiDigit d).toNat = 0x30 + d := by
  rw [asciiDigit, BitVec.toNat_ofNat]; omega

/-- Each byte of the field is the ASCII code of a decimal digit (R185). -/
theorem asciiOfId_isDigit {id : Word32} {b : Byte} (h : b ∈ asciiOfId id) :
    0x30 ≤ b.toNat ∧ b.toNat ≤ 0x39 := by
  obtain ⟨d, hd, rfl⟩ := List.mem_map.mp h
  have hlt := digits_lt_ten _ d hd
  rw [asciiDigit_toNat hlt]; omega

/-- Without the ASCII offset, the bytes of the field are the digits of the id (R185). -/
theorem asciiOfId_map_sub (id : Word32) :
    (asciiOfId id).map (fun b => b.toNat - 0x30) = digits id.toNat := by
  rw [asciiOfId, List.map_map]
  refine (List.map_congr_left fun d hd => ?_).trans (List.map_id' _)
  rw [Function.comp_apply, asciiDigit_toNat (digits_lt_ten _ d hd), Nat.add_sub_cancel_left]

/-! The most significant digit. -/

/-- A positive number has no leading zero (R12). -/
theorem digits_eq_cons {v : Nat} (hv : 0 < v) : ∃ d rest, digits v = d :: rest ∧ d ≠ 0 := by
  induction v using Nat.strong_induction_on with
  | _ v ih =>
    by_cases h : v < 10
    · exact ⟨v, [], digits_small h, by omega⟩
    · obtain ⟨d, rest, hdigits, hd⟩ := ih (v / 10) (by omega) (by omega)
      exact ⟨d, rest ++ [v % 10], by rw [digits_step (by omega), hdigits, List.cons_append], hd⟩

/-- Only the one-digit id 0 has the first digit 0 (R185). -/
theorem byteAt_asciiOfId_zero_ne {id : Word32} (h : 1 < (asciiOfId id).length) :
    byteAt (asciiOfId id) 0 ≠ 0x30 := by
  have hpos : 0 < id.toNat := by
    by_contra hzero
    simp [digits_small (show id.toNat < 10 by omega)] at h
  obtain ⟨d, rest, hdigits, hd⟩ := digits_eq_cons hpos
  have hlt : d < 10 := digits_lt_ten id.toNat d (by simp [hdigits])
  have hbyte : byteAt (asciiOfId id) 0 = asciiDigit d := by rw [asciiOfId, hdigits]; rfl
  intro hzero
  have hcode := congrArg BitVec.toNat (hbyte.symm.trans hzero)
  rw [asciiDigit_toNat hlt] at hcode
  exact hd (Nat.add_eq_left.mp hcode)

/-! The field in the payload. -/

/-- The count and the digits, which R89 puts next to each other at offset 43, as one field. -/
theorem TransferFrame.payload_idField {f : TransferFrame} (hwf : f.wf = true) :
    slice f.payload 43 (44 + (asciiOfId f.transactionId).length) =
      BitVec.ofNat 8 (digits f.transactionId.toNat).length :: asciiOfId f.transactionId := by
  obtain ⟨-, -, -, -, -, -, -, -, hcount, hid, -⟩ := TransferFrame.payload_fields hwf
  rw [asciiOfId_length, ← slice_append_slice f.payload (j := 44) (by omega) (by omega), hcount, hid,
    List.singleton_append]

/-- Settles O25: the digits lose only their ASCII offset (`asciiOfId_map_sub`), and the count and the digits
are two adjacent fields of R89 (`TransferFrame.payload_idField`). -/
theorem transactionIdFieldSpellsTheId : Obligations.TransactionIdFieldSpellsTheId := by
  unfold Obligations.TransactionIdFieldSpellsTheId
  refine ⟨fun id => ⟨asciiOfId_length id, ?_, ?_, ?_, fun _ => asciiOfId_isDigit,
    byteAt_asciiOfId_zero_ne⟩, fun _ => TransferFrame.payload_idField, by decide, by decide⟩
  · exact (digits_length_pos id.toNat).trans_eq (asciiOfId_length id).symm
  · exact (asciiOfId_length id).trans_le (id_digits_length id)
  · rw [asciiOfId_map_sub, ofDigits_digits]

end Sys2Proof
end

section
/-! SUPPORT. BAL_PARSE on any content of RXBUF (R200 to R202): its precondition and its fields in the terms
of RXBUF and RXLEN. -/

namespace Sys2Proof.Machine

/-! Parts of a memory range. -/

theorem Memory.readRange_add (m : Memory) (i a b : Nat) :
    Memory.readRange m i (a + b) = Memory.readRange m i a ++ Memory.readRange m (i + a) b := by
  simp only [Memory.readRange, List.range_add, List.map_append, List.map_map, Function.comp_def,
    Nat.add_assoc]

/-- A slice of the bytes received is the same range of RXBUF. -/
theorem CoreState.slice_rxBytes (c : CoreState) {i n : Nat} (h : i + n ≤ c.buf.rxlen.toNat) :
    slice c.rxBytes i (i + n) = Memory.readRange c.buf.rxbuf i n := by
  obtain ⟨k, hk⟩ := Nat.exists_eq_add_of_le h
  rw [CoreState.rxBytes, hk, Memory.readRange_add, Memory.readRange_add, List.append_assoc, Nat.zero_add]
  exact slice_of_append rfl (Memory.readRange_length _ _ _) (by simp)

/-! What BAL_PARSE looks at. -/

/-- The precondition of R200, read off RXBUF and RXLEN. -/
theorem balancePrefixOk_rxBytes_iff (p : Params) (c : CoreState) :
    balancePrefixOk p c.cfg.addr c.rxBytes = true ↔ 27 ≤ c.buf.rxlen.toNat ∧
      Memory.read c.buf.rxbuf 0 = c.cfg.addr ∧ Memory.read c.buf.rxbuf 1 = 0x74 := by
  have hlen : c.rxBytes.length = c.buf.rxlen.toNat := Memory.readRange_length _ _ _
  simp only [balancePrefixOk, Fixed.val_eq, Config.balMin, hlen, Bool.and_eq_true, decide_eq_true_eq,
    beq_iff_eq, and_assoc]
  refine and_congr_right fun h => ?_
  rw [CoreState.byteAt_rxBytes (by omega), CoreState.byteAt_rxBytes (by omega)]

/-- The 15 bytes of the amounts are three fields of five, and decimal exactly if each of them is. -/
theorem allDigits_amounts_iff (m : Memory) :
    allDigits (Memory.readRange m 12 15) = true ↔ allDigits (Memory.readRange m 12 5) = true ∧
      allDigits (Memory.readRange m 17 5) = true ∧ allDigits (Memory.readRange m 22 5) = true := by
  rw [show (15 : Nat) = 5 + (5 + 5) from rfl, Memory.readRange_add, Memory.readRange_add]
  simp only [allDigits, List.all_append, Bool.and_eq_true]

/-- The amounts are bytes 12 to 26 of RXBUF (R92, R201). -/
theorem CoreState.amounts_rxBytes {c : CoreState} (h : 27 ≤ c.buf.rxlen.toNat) :
    slice c.rxBytes 12 17 = Memory.readRange c.buf.rxbuf 12 5 ∧
    slice c.rxBytes 17 22 = Memory.readRange c.buf.rxbuf 17 5 ∧
    slice c.rxBytes 22 27 = Memory.readRange c.buf.rxbuf 22 5 :=
  ⟨c.slice_rxBytes (i := 12) (n := 5) (by omega), c.slice_rxBytes (i := 17) (n := 5) (by omega),
    c.slice_rxBytes (i := 22) (n := 5) (by omega)⟩

section
variable (p : Params) {c : CoreState} (h : 27 ≤ c.buf.rxlen.toNat)
include h

theorem balanceFields_rxBytes {cash rest nonr : Nat}
    (hcash : bcdDecode (Memory.readRange c.buf.rxbuf 12 5) = some cash)
    (hrest : bcdDecode (Memory.readRange c.buf.rxbuf 17 5) = some rest)
    (hnonr : bcdDecode (Memory.readRange c.buf.rxbuf 22 5) = some nonr) :
    balanceFields p c.rxBytes = some { cash := BitVec.ofNat 64 cash, rest := BitVec.ofNat 64 rest,
                                       nonr := BitVec.ofNat 64 nonr } := by
  obtain ⟨hc, hr, hn⟩ := CoreState.amounts_rxBytes h
  simp only [balanceFields, Fixed.val_eq, Config.cashOff, Config.restOff, Config.nonrOff,
    Config.amountLen, Nat.reduceAdd, hc, hr, hn, hcash, hrest, hnonr, resultValue_eq]

/-- A nibble above 9 in an amount leaves no balance (R201). -/
theorem balanceFields_eq_none (hdigits : allDigits (Memory.readRange c.buf.rxbuf 12 15) = false) :
    balanceFields p c.rxBytes = none := by
  obtain ⟨hc, hr, hn⟩ := CoreState.amounts_rxBytes h
  simp only [balanceFields, Fixed.val_eq, Config.cashOff, Config.restOff, Config.nonrOff,
    Config.amountLen, Nat.reduceAdd, hc, hr, hn]
  split
  · rename_i cash rest nonr hcash hrest hnonr
    have hall := (allDigits_amounts_iff c.buf.rxbuf).mpr
      ⟨allDigits_of_bcdDecodeFrom hcash, allDigits_of_bcdDecodeFrom hrest,
        allDigits_of_bcdDecodeFrom hnonr⟩
    simp [hall] at hdigits
  · rfl

end

/-! The operation. -/

/-- BAL_PARSE of an idle CORE runs the body of R200 and then writes ERR. -/
theorem exec_balParse_idle {s : State} (hidle : s.core.active = false) :
    exec .balParse s = .next (s.withCore (balParseRule s.params s.core)) := hostOp_idle hidle _

/-- Settles O27: the precondition is `balancePrefixOk_rxBytes_iff`; behind it, the amounts decode exactly
if all their nibbles are digits. -/
theorem balanceParseResult : Obligations.BalanceParseResult := by
  unfold Obligations.BalanceParseResult
  refine ⟨fun s hidle hbad => ?_, fun s hidle hlen haddr hcommand hdigits => ?_,
    fun s hidle hlen haddr hcommand hdigits => ?_⟩
  · have hstart : ¬ balancePrefixOk s.params s.core.cfg.addr s.core.rxBytes = true := by
      rw [balancePrefixOk_rxBytes_iff, ← Nat.not_lt]
      tauto
    rw [exec_balParse_idle hidle, balParseRule, balanceBody, if_neg hstart]
    rfl
  · have hstart := (balancePrefixOk_rxBytes_iff s.params s.core).mpr ⟨hlen, haddr, hcommand⟩
    rw [exec_balParse_idle hidle, balParseRule, balanceBody, if_pos hstart,
      balanceFields_eq_none s.params hlen hdigits]
    rfl
  · have hstart := (balancePrefixOk_rxBytes_iff s.params s.core).mpr ⟨hlen, haddr, hcommand⟩
    obtain ⟨hcash, hrest, hnonr⟩ := (allDigits_amounts_iff s.core.buf.rxbuf).mp hdigits
    obtain ⟨cash, hcash⟩ := bcdDecode_of_allDigits hcash
    obtain ⟨rest, hrest⟩ := bcdDecode_of_allDigits hrest
    obtain ⟨nonr, hnonr⟩ := bcdDecode_of_allDigits hnonr
    refine ⟨cash, rest, nonr, hcash, hrest, hnonr, ?_⟩
    have hlock := s.params.lockOff.isLt
    have haft := s.params.aftOff.isLt
    rw [exec_balParse_idle hidle, balParseRule, balanceBody, if_pos hstart,
      balanceFields_rxBytes s.params hlen hcash hrest hnonr,
      CoreState.byteAt_rxBytes (by omega), CoreState.byteAt_rxBytes (by omega)]
    rfl

end Sys2Proof.Machine
end

section
/-! SUPPORT. The polls of the balance (R200, R204, R258 to R260): what a poll leaves, and that in a step
nothing but a poll or BAL_PARSE writes BAL_* and BAL_STAT, and nothing but a poll enters Done. -/

namespace Sys2Proof.Machine

/-! The end of a poll. -/

/-- CONFIRMED reads the balances, the snapshot and the request, and nothing else (R259). -/
theorem CoreState.confirmed_congr {c d : CoreState} (hbal : d.bal = c.bal) (hpre : d.pre = c.pre)
    (hvalid : d.preValid = c.preValid) (hreq : d.req = c.req) : d.confirmed = c.confirmed := by
  simp only [CoreState.confirmed, hbal, hpre, hvalid, hreq]

@[simp] theorem CoreState.pollDecide_rxBytes (c : CoreState) (ok : Bool) :
    (c.pollDecide ok).rxBytes = c.rxBytes := by
  simp only [CoreState.rxBytes, CoreState.pollDecide_buf]

/-- After a poll no read attempt is open and no byte is on offer (R258, R260). -/
theorem CoreState.pollDecide_quiet {c : CoreState} (h : c.exch.rxOpen = false) (ok : Bool) :
    (c.pollDecide ok).exch.rxOpen = false ∧ (c.pollDecide ok).status.phase ≠ .tx := by
  rcases c.pollDecide_cases ok with ⟨-, -, heq⟩ | ⟨-, -, heq⟩ | ⟨-, -, heq⟩ <;> rw [heq]
  · exact ⟨rfl, nofun⟩
  · exact ⟨rfl, nofun⟩
  · exact ⟨h, nofun⟩

/-- A poll ends the sequence in Done only if CONFIRMED holds (R258). -/
theorem CoreState.pollDecide_done {c : CoreState} {ok : Bool} (hseq : c.status.seq = .verifyingBalance)
    (h : (c.pollDecide ok).status.seq = .done) : (c.pollDecide ok).confirmed = true := by
  rcases c.pollDecide_cases ok with ⟨-, hconf, heq⟩ | ⟨-, -, heq⟩ | ⟨-, -, heq⟩ <;> rw [heq] at h ⊢
  · exact hconf
  · cases h
  · cases hseq.symm.trans h

/-- What a poll leaves is a decision (R258) on the poll counted, with the fields of the response in
BAL_* and BAL_STAT if it shows a balance, and with these unchanged otherwise. An attempt without bytes
shows none. -/
theorem CoreState.pollEnd_shown (p : Params) (c : CoreState) :
    let c₁ := c.withSeqInfo { c.seqInfo with pollsDone := c.seqInfo.pollsDone + 1 }
    let d := c.pollEnd p (if c.rxBytes = [] then .none else .bytes)
    (∃ b, shownBalance c.cfg.addr c.rxBytes = some b ∧ d = ((c₁.withBal b).withBalStat
      { lock := byteAt c.rxBytes p.lockOff.val, aft := byteAt c.rxBytes p.aftOff.val,
        valid := true }).pollDecide true) ∨
    (shownBalance c.cfg.addr c.rxBytes = none ∧ d = c₁.pollDecide false) := by
  intro c₁ d
  rcases balanceBody_shown p c₁ with ⟨b, hb, hbody⟩ | ⟨hnone, e, hbody⟩
  · have hne : c.rxBytes ≠ [] := fun hnil => by
      have hshort : shownBalance c.cfg.addr [] = some b := hnil ▸ hb
      cases hshort
    refine .inl ⟨b, hb, ?_⟩
    rcases c.pollEnd_cases p (if c.rxBytes = [] then .none else .bytes) with
      ⟨c₂, -, hbody', heq⟩ | ⟨hr | ⟨e, hbody'⟩, -⟩
    · cases hbody.symm.trans hbody'
      exact heq
    · rw [if_neg hne] at hr
      exact absurd rfl hr
    · cases hbody.symm.trans hbody'
  · refine .inr ⟨hnone, ?_⟩
    rcases c.pollEnd_cases p (if c.rxBytes = [] then .none else .bytes) with
      ⟨c₂, -, hbody', -⟩ | ⟨-, heq⟩
    · cases hbody.symm.trans hbody'
    · exact heq

/-! Where a step may have polled. -/

theorem SeqState.settled_eq_done {q : SeqState} : q.settled = .done ↔ q = .done := by
  cases q <;> decide

theorem SeqState.settled_eq_verifyingBalance {q : SeqState} :
    q.settled = .verifyingBalance ↔ q = .verifyingBalance := by
  cases q <;> decide

/-- From c to d no balance was taken and Done was not entered. -/
structure Unpolled (c d : CoreState) : Prop where
  bal : d.bal = c.bal
  balStat : d.balStat = c.balStat
  done : d.status.seq = .done → c.status.seq = .done

/-- From c to d, in an exchange, no balance was taken, and neither Done nor VerifyingBalance entered. -/
structure UnpolledExchange (c d : CoreState) : Prop extends Unpolled c d where
  verifying : d.status.seq = .verifyingBalance → c.status.seq = .verifyingBalance

/-- d is what a poll left that ended since c: no balance was taken before its end. -/
def PollEnded (p : Params) (c d : CoreState) : Prop :=
  ∃ e r, UnpolledExchange c e ∧ e.status.seq = .verifyingBalance ∧ e.exch.rxOpen = false ∧
    d = e.pollEnd p r

/-- BAL_* and BAL_STAT hold the fields of the acceptable response in RXBUF (R200 to R202). -/
structure TookResponse (p : Params) (c : CoreState) : Prop where
  start : balancePrefixOk p c.cfg.addr c.rxBytes = true
  fields : balanceFields p c.rxBytes = some c.bal
  balStat : c.balStat = { lock := byteAt c.rxBytes p.lockOff.val,
                          aft := byteAt c.rxBytes p.aftOff.val, valid := true }

theorem balanceBody_took {p : Params} {c d : CoreState} (h : balanceBody p c = .ok d) :
    TookResponse p d := by
  obtain ⟨b, hb, hstart, rfl⟩ := balanceBody_ok h
  exact ⟨hstart, hb, rfl⟩

theorem TookResponse.pollDecide {p : Params} {c : CoreState} (h : TookResponse p c) (ok : Bool) :
    TookResponse p (c.pollDecide ok) := by
  obtain ⟨hstart, hfields, hstat⟩ := h
  constructor <;> simpa

theorem Unpolled.refl (c : CoreState) : Unpolled c c := ⟨rfl, rfl, id⟩

/-- Entering a state other than Done. -/
theorem Unpolled.of_seq {c d : CoreState} {q : SeqState} (hbal : d.bal = c.bal)
    (hstat : d.balStat = c.balStat) (hseq : d.status.seq = q) (hq : q ≠ .done) : Unpolled c d :=
  ⟨hbal, hstat, fun h => absurd (hseq.symm.trans h) hq⟩

theorem Unpolled.loaded (p : Params) (c : CoreState) (f : List Byte) :
    Unpolled c (c.loadTx p f).finish :=
  ⟨rfl, rfl, id⟩

theorem Unpolled.trans {c d e : CoreState} (h₁ : Unpolled c d) (h₂ : Unpolled d e) : Unpolled c e :=
  ⟨h₂.bal.trans h₁.bal, h₂.balStat.trans h₁.balStat, h₁.done ∘ h₂.done⟩

namespace UnpolledExchange

theorem trans {c d e : CoreState} (h₁ : UnpolledExchange c d) (h₂ : UnpolledExchange d e) :
    UnpolledExchange c e :=
  ⟨h₁.toUnpolled.trans h₂.toUnpolled, h₁.verifying ∘ h₂.verifying⟩

/-- An exchange that goes on keeps SEQ_STATE, and one that fails leaves Failed. -/
theorem of_seq {c d : CoreState} (hbal : d.bal = c.bal) (hstat : d.balStat = c.balStat)
    (hseq : d.status.seq = c.status.seq ∨ d.status.seq = .failed) : UnpolledExchange c d := by
  rcases hseq with hseq | hseq
  · exact ⟨⟨hbal, hstat, hseq.symm.trans⟩, hseq.symm.trans⟩
  · exact ⟨⟨hbal, hstat, fun h => by cases hseq.symm.trans h⟩, fun h => by cases hseq.symm.trans h⟩

theorem refl (c : CoreState) : UnpolledExchange c c := of_seq rfl rfl (.inl rfl)

section
variable {c d : CoreState} (h : UnpolledExchange c d)
include h

theorem fail (k : ErrCode) : UnpolledExchange c (d.fail k) := h.trans (of_seq rfl rfl (.inr rfl))

theorem endWrite : UnpolledExchange c d.endWrite := by
  rcases d.endWrite_cases with ⟨-, -, heq⟩ | ⟨-, heq⟩ <;> rw [heq]
  · exact h.fail _
  · exact h.trans (of_seq rfl rfl (.inl rfl))

theorem startExchange (w : Owner) : UnpolledExchange c (d.startExchange w) := by
  rcases d.startExchange_cases w with ⟨-, heq⟩ | ⟨-, heq⟩ <;> rw [heq]
  · exact endWrite (h.trans (of_seq rfl rfl (.inl rfl)))
  · exact h.trans (of_seq rfl rfl (.inl rfl))

/-- SETTLE enters settle states only (R254). -/
theorem settle : UnpolledExchange c d.settle := by
  have hseq : d.settle.status.seq = d.status.seq.settled := rfl
  refine h.trans ⟨⟨rfl, rfl, fun hdone => ?_⟩, fun hverify => ?_⟩
  · exact SeqState.settled_eq_done.mp (hseq.symm.trans hdone)
  · exact SeqState.settled_eq_verifyingBalance.mp (hseq.symm.trans hverify)

end

theorem txAccept (c : CoreState) : UnpolledExchange c c.txAccept := by
  have hnext : UnpolledExchange c (c.withExch { c.exch with txPos := c.exch.txPos + 1 }) :=
    of_seq rfl rfl (.inl rfl)
  simp only [CoreState.txAccept]
  split
  · exact hnext.endWrite
  · exact hnext

theorem aftCancelRule (c : CoreState) : UnpolledExchange c (aftCancelRule c) := by
  rcases aftCancelRule_cases c with ⟨-, heq⟩ | ⟨-, -, heq⟩ | ⟨-, -, heq⟩ <;> rw [heq]
  · exact of_seq rfl rfl (.inl rfl)
  · exact of_seq rfl rfl (.inl rfl)
  · exact fail (of_seq rfl rfl (.inl rfl)) _

end UnpolledExchange

theorem Unpolled.startExchange {c d : CoreState} (h : Unpolled c d) (w : Owner) :
    Unpolled c (d.startExchange w) :=
  h.trans (UnpolledExchange.startExchange (.refl d) w).toUnpolled

namespace PollEnded

theorem after {p : Params} {c c' d : CoreState} (h : UnpolledExchange c c') (hd : PollEnded p c' d) :
    PollEnded p c d := by
  obtain ⟨e, r, he, hrest⟩ := hd
  exact ⟨e, r, h.trans he, hrest⟩

section
variable {p : Params} {c d : CoreState} (h : PollEnded p c d)
include h

theorem verifying : c.status.seq = .verifyingBalance := by
  obtain ⟨e, r, he, hseq, -⟩ := h
  exact he.verifying hseq

/-- The decision of a poll is taken in VerifyingBalance with no read attempt open, and BAL_* and BAL_STAT
are then as before or from the response (R258). -/
theorem decides : ∃ e ok, d = e.pollDecide ok ∧ e.status.seq = .verifyingBalance ∧
    e.exch.rxOpen = false ∧
    (e.bal = c.bal ∧ e.balStat = c.balStat ∨ TookResponse p e) := by
  obtain ⟨e, r, he, hseq, hopen, rfl⟩ := h
  rcases e.pollEnd_cases p r with ⟨e₂, -, hbody, heq⟩ | ⟨-, heq⟩
  · obtain ⟨hstatus, hexch⟩ := balanceBody_control hbody
    exact ⟨e₂, true, heq, hstatus ▸ hseq, hexch ▸ hopen, .inr (balanceBody_took hbody)⟩
  · exact ⟨_, false, heq, hseq, hopen, .inl ⟨he.bal, he.balStat⟩⟩

theorem balance : (d.bal = c.bal ∧ d.balStat = c.balStat) ∨ TookResponse p d := by
  obtain ⟨e, ok, rfl, -, -, hbal⟩ := h.decides
  simpa using hbal.imp_right fun htook => htook.pollDecide ok

theorem confirmed (hdone : d.status.seq = .done) : d.confirmed = true := by
  obtain ⟨e, ok, rfl, hseq, -⟩ := h.decides
  exact CoreState.pollDecide_done hseq hdone

/-- After a poll, bytes are lost and none is taken (R221, R222). -/
theorem wireStep {d' : CoreState} (hstep : WireStep p d d') : d' = d := by
  obtain ⟨e, ok, rfl, -, hopen, -⟩ := h.decides
  obtain ⟨hopen, hphase⟩ := CoreState.pollDecide_quiet hopen ok
  cases hstep with
  | accept hoffer =>
    simp only [CoreState.offering, Bool.and_eq_true, beq_iff_eq] at hoffer
    exact absurd hoffer.1 hphase
  | receive b => simp [CoreState.rxByte, hopen]

end

end PollEnded

/-- What the end of an exchange does: it is the end of a poll, or nothing of a poll happens (R254). -/
theorem CoreState.seqExchangeEnd_polls (p : Params) {c : CoreState} (hopen : c.exch.rxOpen = false)
    (r : ExchangeOutcome) :
    UnpolledExchange c (c.seqExchangeEnd p r) ∨ PollEnded p c (c.seqExchangeEnd p r) := by
  rcases c.seqExchangeEnd_cases p r with
    ⟨-, heq⟩ | ⟨-, hseq, heq⟩ | ⟨-, -, -, heq⟩ | ⟨-, -, -, -, heq⟩ | ⟨-, -, -, -, heq⟩ <;> rw [heq]
  · exact .inl ((UnpolledExchange.refl c).fail _)
  · exact .inr ⟨c, r, .refl c, hseq, hopen, rfl⟩
  · exact .inl (.settle (.of_seq rfl rfl (.inl rfl)))
  · refine .inl (UnpolledExchange.startExchange ?_ _)
    exact .of_seq rfl rfl (.inl rfl)
  · exact .inl (.settle (.of_seq rfl rfl (.inl rfl)))

theorem CoreState.endRead_polls (p : Params) (c : CoreState) (r : ExchangeOutcome) :
    UnpolledExchange c (c.endRead p r) ∨ PollEnded p c (c.endRead p r) := by
  rcases c.endRead_cases p r with ⟨-, heq⟩ | ⟨-, heq⟩ <;> rw [heq]
  · exact .inl (.of_seq rfl rfl (.inl rfl))
  · let c' := (c.withExch { c.exch with rxOpen := false }).withStatus { c.status with phase := .none }
    have hclosed : UnpolledExchange c c' := .of_seq rfl rfl (.inl rfl)
    exact (CoreState.seqExchangeEnd_polls p (c := c') rfl r).imp hclosed.trans (.after hclosed)

theorem CoreState.rxByte_polls (p : Params) (c : CoreState) (b : Byte) :
    UnpolledExchange c (c.rxByte p b) ∨ PollEnded p c (c.rxByte p b) := by
  have hstored : UnpolledExchange c (c.storeRx p b) := .of_seq rfl rfl (.inl rfl)
  rcases c.rxByte_cases p b with ⟨-, heq⟩ | ⟨-, heq, -⟩ | ⟨-, heq, -⟩ <;> rw [heq]
  · exact .inl (.refl c)
  · exact ((c.storeRx p b).endRead_polls p .bytes).imp hstored.trans (.after hstored)
  · exact .inl hstored

/-- In a run of bytes at most one poll ends, and the bytes after its end change nothing. -/
theorem WireStep.run_polls {p : Params} {c d : CoreState} (h : Relation.ReflTransGen (WireStep p) c d) :
    UnpolledExchange c d ∨ PollEnded p c d := by
  refine WireStep.run_keeps (I := fun d => UnpolledExchange c d ∨ PollEnded p c d) ?_
    (.inl (.refl c)) h
  rintro d d' (hd | hd) hstep
  · cases hstep with
    | accept => exact .inl (hd.trans (.txAccept d))
    | receive b => exact (d.rxByte_polls p b).imp hd.trans (.after hd)
  · rw [hd.wireStep hstep]
    exact .inr hd

theorem CoreState.chanErr_polls (p : Params) (c : CoreState) :
    UnpolledExchange c (c.chanErr p) ∨ PollEnded p c (c.chanErr p) := by
  unfold CoreState.chanErr
  split
  · exact c.endRead_polls p _
  · exact .inl (.refl c)

theorem CoreState.enterTransferring_unpolled (p : Params) (c : CoreState) :
    Unpolled c (c.enterTransferring p) := by
  unfold CoreState.enterTransferring
  refine Unpolled.startExchange ?_ _
  exact .of_seq (q := .transferring) (by simp) (by simp) (by simp) nofun

theorem CoreState.enterVerify_unpolled (p : Params) (c : CoreState) :
    Unpolled c (c.enterVerify p) := by
  unfold CoreState.enterVerify
  refine Unpolled.startExchange ?_ _
  exact .of_seq (q := .verifyingBalance) (by simp) (by simp) (by simp) nofun

/-- The ticks of a wait start exchanges; they end no poll (R242). -/
theorem CoreState.tickWait_unpolled (p : Params) (c : CoreState) : Unpolled c (c.tickWait p) := by
  have hcount : Unpolled c c.tickTimer := ⟨rfl, rfl, id⟩
  rcases c.tickWait_cases p with ⟨-, -, heq⟩ | ⟨-, -, heq⟩ | ⟨-, -, heq⟩ | heq <;> rw [heq]
  · exact hcount.trans (c.tickTimer.enterTransferring_unpolled p)
  · exact hcount.trans (c.tickTimer.enterVerify_unpolled p)
  · exact hcount.startExchange _
  · exact hcount

theorem CoreState.tick_polls (p : Params) (c : CoreState) :
    Unpolled c (c.tick p) ∨ PollEnded p c (c.tick p) := by
  let c' := c.withElapsed (c.elapsed.tick c.status.seq)
  have hcount : UnpolledExchange c c'.tickTimer := .of_seq rfl rfl (.inl rfl)
  rcases c.tick_cases p with ⟨-, -, heq⟩ | ⟨-, -, heq⟩ | ⟨-, -, heq⟩ | ⟨-, -, heq⟩ <;> rw [heq]
  · exact .inl hcount.toUnpolled
  · exact (c'.tickTimer.endRead_polls p _).imp (fun h => (hcount.trans h).toUnpolled) (.after hcount)
  · have hcount : Unpolled c c' := ⟨rfl, rfl, id⟩
    exact .inl (hcount.trans (c'.tickWait_unpolled p))
  · exact .inl ⟨rfl, rfl, id⟩

/-! Instructions. -/

theorem hostOp_unpolled {s t : State} {rule : CoreState → CoreState}
    (hrule : Unpolled s.core (rule s.core)) (h : hostOp s rule = .next t) : Unpolled s.core t.core := by
  cases ha : s.core.active with
  | true => cases (hostOp_busy ha rule).symm.trans h; exact ⟨rfl, rfl, id⟩
  | false => cases (hostOp_idle ha rule).symm.trans h; exact hrule

theorem aftStartRule_unpolled (p : Params) (ty : TransferType) (c : CoreState) :
    Unpolled c (aftStartRule p ty c) := by
  rcases aftStartRule_cases p ty c with ⟨-, heq⟩ | ⟨-, heq⟩ | ⟨-, heq⟩ <;> rw [heq]
  · exact ⟨rfl, rfl, id⟩
  · exact .of_seq (q := .failed) rfl rfl rfl nofun
  · refine Unpolled.startExchange ?_ _
    exact .of_seq (q := .registering) rfl rfl rfl nofun

/-- No host operation but BAL_PARSE takes a balance, and none enters Done (R204). -/
theorem exec_unpolled {i : Instr} (hop : isHostOp i = true) (hne : i ≠ .balParse) {s t : State}
    (h : exec i s = .next t) : Unpolled s.core t.core := by
  cases i with
  | nop => cases h; exact ⟨rfl, rfl, id⟩
  | crc16 src => exact hostOp_unpolled ⟨rfl, rfl, id⟩ h
  | bcdEnc n =>
    have h : execBcdEnc n s = .next t := h
    unfold execBcdEnc at h
    split at h
    · refine hostOp_unpolled ?_ h
      unfold bcdEncRule
      split <;> exact ⟨rfl, rfl, id⟩
    · cases h; exact ⟨rfl, rfl, id⟩
  | bcdDec n =>
    have h : execBcdDec n s = .next t := h
    unfold execBcdDec at h
    split at h
    · refine hostOp_unpolled ?_ h
      unfold bcdDecRule
      split <;> exact ⟨rfl, rfl, id⟩
    · cases h; exact ⟨rfl, rfl, id⟩
  | frameBuild command => exact hostOp_unpolled (.loaded ..) h
  | frameParse =>
    refine hostOp_unpolled ?_ h
    unfold frameParseRule
    split <;> exact ⟨rfl, rfl, id⟩
  | meterParse =>
    refine hostOp_unpolled ?_ h
    unfold meterParseRule
    split <;> exact ⟨rfl, rfl, id⟩
  | buildReg => exact hostOp_unpolled (.loaded ..) h
  | buildXfer ty =>
    refine hostOp_unpolled ?_ h
    unfold buildXferRule
    split
    · exact ⟨rfl, rfl, id⟩
    · exact .loaded ..
  | buildBalq => exact hostOp_unpolled (.loaded ..) h
  | balParse => exact absurd rfl hne
  | xchg =>
    refine hostOp_unpolled ?_ h
    unfold xchgRule
    refine Unpolled.startExchange ?_ _
    exact ⟨rfl, rfl, id⟩
  | aftStart ty => exact hostOp_unpolled (aftStartRule_unpolled s.params ty s.core) h
  | aftCancel => cases h; exact (UnpolledExchange.aftCancelRule s.core).toUnpolled
  | aftClear =>
    refine hostOp_unpolled ?_ h
    unfold aftClearRule
    split
    · exact .of_seq (q := .idle) rfl rfl rfl nofun
    · exact ⟨rfl, rfl, id⟩
  | _ => cases hop

/-- A frame that crosses the wire is a run of bytes (log 3). -/
theorem exec_frame_run {i : Instr} (hframe : isHostOp i = false) {s t : State}
    (h : exec i s = .next t) : Relation.ReflTransGen (WireStep s.params) s.core t.core := by
  have htake (bs : List Byte) :
      Relation.ReflTransGen (WireStep s.params) s.core (s.takeFrame bs).core := by
    unfold State.takeFrame
    split
    · exact acceptBytes_wireSteps _ s
    · exact .refl
  cases i with
  | wireAftRegistration f => cases h; exact htake _
  | wireAftTransfer f => cases h; exact htake _
  | wireBalanceQuery a => cases h; exact htake _
  | wireMeterRead a payload => cases h; exact htake _
  | wireBalanceResponse r => cases h; exact deliverBytes_wireSteps s _
  | wireMeterResponse r => cases h; exact deliverBytes_wireSteps s _
  | _ => cases hframe

theorem isHostOp_of_decodeSent {bs : List Byte} {i : Instr} (h : decodeSent bs = .ok i) :
    isHostOp i = false := by
  obtain ⟨hwf, henc⟩ := decodeSent_ok_iff_encode.mp h
  by_contra hhost
  obtain ⟨op, arg, hword, -⟩ := hostOp_word (by simpa using hhost) hwf
  cases henc.symm.trans hword

theorem isHostOp_of_fetchSent {s s' : State} {i : Instr} (h : fetchSent s = .instr i s') :
    isHostOp i = false := by
  unfold fetchSent at h
  split at h
  · split at h <;> cases h
    exact isHostOp_of_decodeSent ‹_›
  · cases h

theorem isHostOp_of_decodeReceived {bs : List Byte} {i : Instr} (h : decodeReceived bs = .ok i) :
    isHostOp i = false := by
  rcases decodeReceived_ok_iff.mp h with ⟨r, -, -, rfl⟩ | ⟨r, -, -, rfl⟩ <;> rfl

/-! Steps. -/

/-- The next event issues the word of BAL_PARSE. -/
def IssuesBalParse (s : State) : Prop :=
  ∃ w, s.events.head? = some (.issue w) ∧ decodeWord w = .ok .balParse

/-- A step is a RESET, or BAL_PARSE, or ends a poll, or does nothing of the kind. -/
inductive StepPolls (s t : State) : Prop
  | reset (hnext : nextIsReset s = true) (h : t.core = .reset)
  | balParse (hnext : IssuesBalParse s)
      (h : t.core = s.core.raise .busy ∨ t.core = balParseRule s.params s.core)
  | unpolled (h : Unpolled s.core t.core)
  | pollEnded (h : PollEnded s.params s.core t.core)

theorem StepPolls.of_exchange {s t : State}
    (h : UnpolledExchange s.core t.core ∨ PollEnded s.params s.core t.core) : StepPolls s t :=
  h.elim (fun h => .unpolled h.toUnpolled) .pollEnded

theorem StepPolls.of_run {s t : State}
    (h : Relation.ReflTransGen (WireStep s.params) s.core t.core) : StepPolls s t :=
  .of_exchange (WireStep.run_polls h)

theorem exec_balParse_cases {s t : State} (h : exec .balParse s = .next t) :
    t.core = s.core.raise .busy ∨ t.core = balParseRule s.params s.core := by
  cases ha : s.core.active with
  | true => cases (hostOp_busy ha _).symm.trans h; exact .inl rfl
  | false => cases (exec_balParse_idle ha).symm.trans h; exact .inr rfl

section
variable {p : Params} {c d : CoreState} (h : d = c.raise .busy ∨ d = balParseRule p c)
include h

theorem balParse_balance : (d.bal = c.bal ∧ d.balStat = c.balStat) ∨ TookResponse p d := by
  rcases h with rfl | rfl
  · exact .inl ⟨rfl, rfl⟩
  · unfold balParseRule
    split
    · rename_i c' hbody
      obtain ⟨hstart, hfields, hstat⟩ := balanceBody_took hbody
      exact .inr ⟨hstart, hfields, hstat⟩
    · exact .inl ⟨rfl, rfl⟩

theorem balParse_seq : d.status.seq = c.status.seq := by
  rcases h with rfl | rfl
  · rfl
  · unfold balParseRule
    split
    · rename_i c' hbody
      have hseq : c'.finish.status.seq = c'.status.seq := rfl
      rw [hseq, (balanceBody_control hbody).1]
    · rfl

end

/-- An instruction that the host issues (R220): BAL_PARSE is one. -/
theorem step_issue_polls {s t : State} {w : Word32} {rest : List Event}
    (hev : s.events = .issue w :: rest) (h : step s = .next t) : StepPolls s t := by
  rw [step_issue hev] at h
  cases hd : decodeWord w with
  | error e => rw [hd] at h; cases h; exact .unpolled ⟨rfl, rfl, id⟩
  | ok i =>
    simp only [hd] at h
    have hop := ((hostWordsDecodeExactlyAsEncoded w i).mp hd).1
    by_cases hi : i = .balParse
    · subst hi
      exact .balParse ⟨w, by rw [hev]; rfl, hd⟩ (exec_balParse_cases (s := s.withEvents rest) h)
    · exact .unpolled (exec_unpolled (s := s.withEvents rest) hop hi h)

/-- A frame on the wire is a run of bytes, whether it is a row or not (log 3). -/
theorem step_txFrame_run {s t : State} {rest : List Event} (hev : s.events = .txFrame :: rest)
    (h : step s = .next t) : Relation.ReflTransGen (WireStep s.params) s.core t.core := by
  rw [step_txFrame hev] at h
  rcases fetchSent_cases (s.withEvents rest) with ⟨i, hf⟩ | hf
  · simp only [hf] at h
    exact exec_frame_run (s := s.withEvents rest) (isHostOp_of_fetchSent hf) h
  · rw [hf] at h; cases h
    exact acceptBytes_wireSteps _ (s.withEvents rest)

theorem step_rxFrame_run {s t : State} {bs : List Byte} {rest : List Event}
    (hev : s.events = .rxFrame bs :: rest) (h : step s = .next t) :
    Relation.ReflTransGen (WireStep s.params) s.core t.core := by
  rw [step_rxFrame hev] at h
  cases hd : decodeReceived bs with
  | ok i =>
    simp only [hd] at h
    exact exec_frame_run (s := s.withEvents rest) (isHostOp_of_decodeReceived hd) h
  | error e => rw [hd] at h; cases h; exact deliverBytes_wireSteps (s.withEvents rest) bs

/-- What a step does about the balance registers and about Done (R204, R258). -/
theorem step_polls {s t : State} (h : step s = .next t) : StepPolls s t := by
  cases hev : s.events with
  | nil => cases (step_idle hev).symm.trans h; exact .unpolled (.refl _)
  | cons e rest =>
    cases e with
    | issue w => exact step_issue_polls hev h
    | write n v =>
      cases (step_write hev).symm.trans h
      obtain ⟨cfg, opnd, plen, rxlen, heq⟩ := s.core.writeReg_eq n v
      refine .unpolled ?_
      simp only [State.withCore_core, heq]
      exact ⟨rfl, rfl, id⟩
    | read n => cases (step_read hev).symm.trans h; exact .unpolled (.refl _)
    | writeB m i b =>
      cases (step_writeB hev).symm.trans h
      obtain ⟨pbuf, rxbuf, keybuf, heq⟩ := s.core.writeMem_eq s.params m i b
      refine .unpolled ?_
      simp only [State.withCore_core, heq]
      exact ⟨rfl, rfl, id⟩
    | readB m i => cases (step_readB hev).symm.trans h; exact .unpolled (.refl _)
    | txAccept =>
      cases (step_txAccept hev).symm.trans h
      exact .of_run (acceptBytes_wireSteps 1 (s.withEvents rest))
    | rxByte b => cases (step_rxByte hev).symm.trans h; exact .of_run (.single (.receive b))
    | chanErr =>
      cases (step_chanErr hev).symm.trans h
      exact .of_exchange (s.core.chanErr_polls s.params)
    | tick =>
      cases (step_tick hev).symm.trans h
      rcases s.core.tick_polls s.params with htick | htick
      · exact .unpolled htick
      · exact .pollEnded htick
    | reset =>
      cases (step_reset hev).symm.trans h
      exact .reset (by simp [nextIsReset, hev]) rfl
    | txFrame => exact .of_run (step_txFrame_run hev h)
    | rxFrame bs => exact .of_run (step_rxFrame_run hev h)

/-- Settles O59: of the four kinds of steps, BAL_PARSE and a poll take the balance from the response
or leave it, and the others leave it. -/
theorem balancesChangeOnlyByASuccessfulParse : Obligations.BalancesChangeOnlyByASuccessfulParse := by
  unfold Obligations.BalancesChangeOnlyByASuccessfulParse
  intro s t hreset h
  cases step_polls h with
  | reset hnext => simp [hnext] at hreset
  | balParse hnext hcore =>
    refine (balParse_balance hcore).imp_right fun htook => ?_
    exact ⟨.inr hnext, htook.start, htook.fields, htook.balStat⟩
  | unpolled hs => exact .inl ⟨hs.bal, hs.balStat⟩
  | pollEnded hs =>
    refine hs.balance.imp_right fun htook => ?_
    exact ⟨.inl hs.verifying, htook.start, htook.fields, htook.balStat⟩

/-! The whole of a poll. -/

/-- d is c with the response bs of its poll read, before the decision of R258: the attempt is closed, the
poll is counted, and BAL_* and BAL_STAT are from bs exactly if it shows a balance, which ok tells. -/
structure PollRead (p : Params) (c : CoreState) (bs : List Byte) (d : CoreState) (ok : Bool) : Prop where
  rxBytes : d.rxBytes = bs
  buf : OnlyRxbufChanged c d
  pre : d.pre = c.pre
  preValid : d.preValid = c.preValid
  req : d.req = c.req
  cfg : d.cfg = c.cfg
  rxOpen : d.exch.rxOpen = false
  status : d.status = { c.status with phase := .none }
  seqInfo : d.seqInfo = { c.seqInfo with pollsDone := c.seqInfo.pollsDone + 1 }
  balance : (ok = true ∧ shownBalance c.cfg.addr bs = some d.bal ∧
      d.balStat = { lock := byteAt bs p.lockOff.val, aft := byteAt bs p.aftOff.val, valid := true }) ∨
    (ok = false ∧ shownBalance c.cfg.addr bs = none ∧ d.bal = c.bal ∧ d.balStat = c.balStat)

theorem CoreState.seqExchangeEnd_verifying (p : Params) {c : CoreState} {r : ExchangeOutcome}
    (hr : r ≠ .transport) (hseq : c.status.seq = .verifyingBalance) :
    c.seqExchangeEnd p r = c.pollEnd p r := by
  rw [CoreState.seqExchangeEnd, if_neg hr, if_pos hseq]

/-- The end of a read attempt in VerifyingBalance reads the response and decides (R227, R258). -/
theorem step_endsPoll {s : State} {e : Event} {rest : List Event} {bs : List Byte}
    (hev : s.events = e :: rest) (hseq : s.core.status.seq = .verifyingBalance)
    (hopen : s.core.exch.rxOpen = true) (howner : s.core.exch.owner = .sequencer)
    (hend : EndsReadAttempt s.core e bs) :
    ∃ (t : State) (d : CoreState) (ok : Bool), step s = .next t ∧ t.core = d.pollDecide ok ∧
      PollRead s.params s.core bs d ok ∧ (e = .tick → d.buf = s.core.buf) := by
  obtain ⟨t, rxbuf, rxlen, el, tm, hstep, hcore, hrx, htick⟩ :=
    step_endsReadAttempt hev hopen howner hend
  have hr : (if bs = [] then ExchangeOutcome.none else .bytes) ≠ .transport := by split <;> nofun
  rw [CoreState.seqExchangeEnd_verifying (c := attemptEnded s.core rxbuf rxlen el tm) _ hr hseq,
    ← hrx] at hcore
  have hbuf : e = .tick → (attemptEnded s.core rxbuf rxlen el tm).buf = s.core.buf := fun he => by
    obtain ⟨rfl, rfl⟩ := htick he
    rfl
  subst hrx
  rcases CoreState.pollEnd_shown s.params (attemptEnded s.core rxbuf rxlen el tm) with
    ⟨b, hb, heq⟩ | ⟨hnone, heq⟩
  · exact ⟨t, _, true, hstep, hcore.trans heq,
      ⟨rfl, rfl, rfl, rfl, rfl, rfl, rfl, rfl, rfl, .inl ⟨rfl, hb, rfl⟩⟩, hbuf⟩
  · exact ⟨t, _, false, hstep, hcore.trans heq,
      ⟨rfl, rfl, rfl, rfl, rfl, rfl, rfl, rfl, rfl, .inr ⟨rfl, hnone, rfl, rfl⟩⟩, hbuf⟩

namespace PollRead
variable {p : Params} {c d : CoreState} {bs : List Byte} {ok : Bool} (h : PollRead p c bs d ok)
include h

theorem bal_of_none (hnone : shownBalance c.cfg.addr bs = none) :
    d.bal = c.bal ∧ d.balStat = c.balStat := by
  rcases h.balance with ⟨-, hb, -⟩ | ⟨-, -, hsame⟩
  · cases hb.symm.trans hnone
  · exact hsame

theorem bal_of_some {b : Balance} (hb : shownBalance c.cfg.addr bs = some b) : d.bal = b ∧
    d.balStat = { lock := byteAt bs p.lockOff.val, aft := byteAt bs p.aftOff.val, valid := true } := by
  rcases h.balance with ⟨-, hb', hstat⟩ | ⟨-, hnone, -⟩
  · exact ⟨Option.some.inj (hb'.symm.trans hb), hstat⟩
  · cases hb.symm.trans hnone

/-- The decision tests CONFIRMED with the balance that the response shows (R258, R259). -/
theorem confirms_iff : (ok && d.confirmed) = true ↔ PollConfirms c bs := by
  have hconf : (c.withBal d.bal).confirmed = d.confirmed :=
    CoreState.confirmed_congr rfl h.pre.symm h.preValid.symm h.req.symm
  rcases h.balance with ⟨rfl, hb, -⟩ | ⟨rfl, hnone, -⟩
  · simp [PollConfirms, hb, hconf]
  · simp [PollConfirms, hnone]

/-- A confirmed balance ends the sequence in Done (R258, R260). -/
theorem decides_done (hconf : PollConfirms c bs) : (d.pollDecide ok).status = { c.status with
    seq := .done, phase := .none, cancelPending := false, err := .ok } := by
  rw [CoreState.pollDecide, if_pos (h.confirms_iff.mpr hconf), CoreState.finishSeq_status, h.status]
  rfl

section
variable (hconf : ¬ PollConfirms c bs)
include hconf

/-- The last poll of the budget ends it in DoneUnconfirmed (R258, R260). -/
theorem decides_unconfirmed (hlast : c.cfg.polls.toNat ≤ (c.seqInfo.pollsDone + 1).toNat) :
    (d.pollDecide ok).status = { c.status with
      seq := .doneUnconfirmed, phase := .none, cancelPending := false, err := .ok } := by
  have hlast : d.cfg.polls.toNat ≤ d.seqInfo.pollsDone.toNat := by rwa [h.cfg, h.seqInfo]
  rw [CoreState.pollDecide, if_neg (mt h.confirms_iff.mp hconf), if_pos hlast,
    CoreState.finishSeq_status, h.status]
  rfl

/-- An earlier poll begins the wait for the next (R258). -/
theorem decides_wait (hmore : (c.seqInfo.pollsDone + 1).toNat < c.cfg.polls.toNat) :
    (d.pollDecide ok).status = { c.status with phase := .wait } ∧
      (d.pollDecide ok).exch.timer = 0 := by
  have hmore : ¬ d.cfg.polls.toNat ≤ d.seqInfo.pollsDone.toNat := by
    rw [h.cfg, h.seqInfo]
    exact Nat.not_le.mpr hmore
  rw [CoreState.pollDecide, if_neg (mt h.confirms_iff.mp hconf), if_neg hmore]
  exact ⟨by rw [CoreState.startWait, CoreState.withExch_status, CoreState.withStatus_status, h.status],
    rfl⟩

end

end PollRead

/-- Settles O38: a poll reads its response (`PollRead`) and decides on it, and of the four kinds of steps
only the end of a poll enters Done. -/
theorem silentPollIsCounted : Obligations.SilentPollIsCounted := by
  unfold Obligations.SilentPollIsCounted
  constructor
  · intro s e rest bs hev hseq hopen howner hend
    obtain ⟨t, d, ok, hstep, hcore, hread, htick⟩ := step_endsPoll hev hseq hopen howner hend
    obtain ⟨hclosed, -⟩ := CoreState.pollDecide_quiet hread.rxOpen ok
    have hbuf : OnlyRxbufChanged s.core (d.pollDecide ok) := by
      rw [OnlyRxbufChanged, CoreState.pollDecide_buf]
      exact hread.buf
    refine ⟨t, hstep, ?_⟩
    rw [hcore]
    simp only [CoreState.pollDecide_rxBytes, CoreState.pollDecide_buf, CoreState.pollDecide_pre,
      CoreState.pollDecide_preValid, CoreState.pollDecide_req, CoreState.pollDecide_seqInfo,
      CoreState.pollDecide_bal, CoreState.pollDecide_balStat]
    exact ⟨hclosed, hread.rxBytes, hbuf, htick, hread.pre, hread.preValid, hread.req,
      hread.seqInfo, hread.bal_of_none, fun _ => hread.bal_of_some, hread.decides_done,
      hread.decides_unconfirmed, hread.decides_wait⟩
  · intro s t hne h hdone
    cases step_polls h with
    | reset _ hcore => rw [hcore] at hdone; cases hdone
    | balParse _ hcore => exact absurd ((balParse_seq hcore).symm.trans hdone) hne
    | unpolled hs => exact absurd (hs.done hdone) hne
    | pollEnded hs => exact ⟨hs.verifying, hs.confirmed hdone⟩

end Sys2Proof.Machine
end

section
/-! SUPPORT. Runs of events, and frames on the wire (R220, R221, R331): a run of byte events is the whole-frame
event, and a frame on offer that is taken to its end ends the write phase. -/

namespace Sys2Proof.Machine

/-! Runs of events. -/

theorem runSteps_succ {s t : State} (h : step s = .next t) (k : Nat) :
    runSteps (k + 1) s = runSteps k t := by
  have hstep : Sys2Proof.core.step s = .next t := h
  simp only [runSteps, Host.Core.run, hstep]
  rfl

/-- Events of one kind, each of which presents x to the rule f, run f over what they present. -/
theorem runSteps_map {α : Type} {event : α → Event} {f : State → α → State}
    (hstep : ∀ (s : State) (x : α) (rest : List Event), s.events = event x :: rest →
      step s = .next (f (s.withEvents rest) x))
    (hevents : ∀ (s : State) (x : α) (es : List Event),
      f (s.withEvents es) x = (f s x).withEvents es)
    (xs : List α) (s : State) (rest : List Event) :
    runSteps xs.length (s.withEvents (xs.map event ++ rest)) =
      .next (xs.foldl f (s.withEvents rest)) := by
  induction xs generalizing s with
  | nil => rfl
  | cons x xs ih =>
    have hfirst : step (s.withEvents ((x :: xs).map event ++ rest)) =
        .next ((f s x).withEvents (xs.map event ++ rest)) := by
      rw [hstep _ x (xs.map event ++ rest) rfl, State.withEvents_withEvents, hevents]
    rw [List.foldl_cons, hevents, ← ih (f s x), List.length_cons, runSteps_succ hfirst]

/-- The same event again and again runs its rule as often. -/
theorem runSteps_replicate {e : Event} {f : State → State}
    (hstep : ∀ (s : State) (rest : List Event), s.events = e :: rest →
      step s = .next (f (s.withEvents rest)))
    (hevents : ∀ (s : State) (es : List Event), f (s.withEvents es) = (f s).withEvents es)
    (n : Nat) (s : State) (rest : List Event) :
    runSteps n (s.withEvents (List.replicate n e ++ rest)) = .next (f^[n] (s.withEvents rest)) := by
  have hrun := runSteps_map (event := fun _ : Unit => e) (f := fun s _ => f s)
    (fun s _ => hstep s) (fun s _ => hevents s) (List.replicate n ()) s rest
  rwa [List.length_replicate, List.map_replicate, List.foldl_const, List.length_replicate] at hrun

theorem acceptByte_withEvents (s : State) (es : List Event) :
    (s.withEvents es).acceptByte = s.acceptByte.withEvents es := by
  unfold State.acceptByte
  rw [State.withEvents_core]
  split <;> rfl

theorem acceptBytes_eq_iterate (n : Nat) (s : State) :
    State.acceptBytes n s = State.acceptByte^[n] s := by
  induction n generalizing s with
  | zero => rfl
  | succ n ih => exact ih s.acceptByte

/-! The wire rows. -/

/-- The meaning of a transmitted row (R88 to R91). -/
theorem exec_of_isSentFrame {i : Instr} (h : isSentFrame i = true) (s : State) :
    exec i s = .next (s.takeFrame (wireBytes i)) := by
  cases i with
  | wireAftRegistration | wireAftTransfer | wireBalanceQuery | wireMeterRead => rfl
  | _ => cases h

/-- The meaning of a received row (R92, R93). -/
theorem exec_of_isReceivedFrame {i : Instr} (h : isReceivedFrame i = true) (s : State) :
    exec i s = .next (s.deliverBytes (wireBytes i)) := by
  cases i with
  | wireBalanceResponse | wireMeterResponse => rfl
  | _ => cases h

theorem isSentFrame_of_encode {i : Instr} {bs : List Byte} (h : encode i = .sent bs) :
    isSentFrame i = true ∧ wireBytes i = bs := by
  refine ⟨?_, by rw [wireBytes, h]⟩
  cases i with
  | wireAftRegistration | wireAftTransfer | wireBalanceQuery | wireMeterRead => rfl
  | _ => cases h

theorem isReceivedFrame_of_encode {i : Instr} {bs : List Byte} (h : encode i = .received bs) :
    isReceivedFrame i = true ∧ wireBytes i = bs := by
  refine ⟨?_, by rw [wireBytes, h]⟩
  cases i with
  | wireBalanceResponse | wireMeterResponse => rfl
  | _ => cases h

theorem CoreState.offersFrame_iff (c : CoreState) (bs : List Byte) :
    c.offersFrame bs = true ↔ c.offering = true ∧ c.exch.txPos = 0 ∧ c.txFrame = bs := by
  simp [CoreState.offersFrame, and_assoc]

/-- All of a frame on offer whose first byte is not yet taken is left. -/
theorem CoreState.bytesLeft_of_offersFrame {c : CoreState} {bs : List Byte}
    (h : c.offersFrame bs = true) : c.bytesLeft = bs.length := by
  obtain ⟨-, hpos, rfl⟩ := (c.offersFrame_iff bs).mp h
  simp [CoreState.bytesLeft, CoreState.txFrame, hpos]

/-! Whole-frame events. -/

theorem fetchSent_row {s : State} {i : Instr} (hoffer : s.core.offersFrame s.core.txFrame = true)
    (hd : decodeSent s.core.txFrame = .ok i) : fetchSent s = .instr i s := by
  rw [fetchSent, if_pos hoffer, hd]

/-- Taking what is left of the frame on offer presents the row of the frame, whose meaning that is, or is
done byte by byte. -/
theorem fetchSent_accepts (s : State) :
    (∃ i, fetchSent s = .instr i s ∧ exec i s = .next (State.acceptBytes s.core.bytesLeft s)) ∨
      fetchSent s = .reaction (State.acceptBytes s.core.bytesLeft s) := by
  by_cases hoffer : s.core.offersFrame s.core.txFrame = true
  · cases hd : decodeSent s.core.txFrame with
    | error e => exact .inr (by rw [fetchSent, if_pos hoffer, hd])
    | ok i =>
      obtain ⟨hsent, hbytes⟩ := isSentFrame_of_encode (decodeSent_ok_iff_encode.mp hd).2
      refine .inl ⟨i, fetchSent_row hoffer hd, ?_⟩
      rw [exec_of_isSentFrame hsent, hbytes, State.takeFrame, if_pos hoffer,
        CoreState.bytesLeft_of_offersFrame hoffer]
  · exact .inr (if_neg hoffer)

theorem step_txFrame_accepts {s : State} {rest : List Event} (h : s.events = .txFrame :: rest) :
    step s = .next (State.acceptBytes s.core.bytesLeft (s.withEvents rest)) := by
  rw [step_txFrame h]
  rcases fetchSent_accepts (s.withEvents rest) with ⟨i, hfetch, hexec⟩ | hfetch
  · simp only [hfetch]
    exact hexec
  · simp only [hfetch]
    rfl

/-- A delivered frame is the run of its bytes, whether or not it is a wire row. -/
theorem step_rxFrame_delivers {s : State} {bs : List Byte} {rest : List Event}
    (h : s.events = .rxFrame bs :: rest) :
    step s = .next ((s.withEvents rest).deliverBytes bs) := by
  rw [step_rxFrame h]
  cases hd : decodeReceived bs with
  | error e => rfl
  | ok i =>
    have henc := (decode_ok_iff (e := .received bs).mp hd).2
    obtain ⟨hreceived, hbytes⟩ := isReceivedFrame_of_encode henc
    simp only [exec_of_isReceivedFrame hreceived, hbytes]

/-- Settles O8: a whole-frame event runs the rule of its bytes' events, as the run of these events does. -/
theorem frameEventsAreRunsOfByteEvents : Obligations.FrameEventsAreRunsOfByteEvents := by
  unfold Obligations.FrameEventsAreRunsOfByteEvents
  constructor
  · intro s bs rest hev
    exact ⟨_, step_rxFrame_delivers hev,
      runSteps_map (fun _ _ _ => step_rxByte) (fun _ _ _ => rfl) bs s rest⟩
  · intro s rest hev
    refine ⟨_, step_txFrame_accepts hev, ?_⟩
    rw [acceptBytes_eq_iterate]
    exact runSteps_replicate (fun _ _ => step_txAccept) acceptByte_withEvents _ s rest

/-- Settles O6: the event presents the word or the frame, and the step runs what it decodes to. -/
theorem stepRunsTheDecodedInstruction : Obligations.StepRunsTheDecodedInstruction := by
  unfold Obligations.StepRunsTheDecodedInstruction
  refine ⟨?_, ?_, ?_⟩
  · intro s w rest i hev hd
    simp only [step_issue hev, hd]
  · intro s rest i hev hoffer hd
    simp only [step_txFrame hev, fetchSent_row (s := s.withEvents rest) hoffer hd]
  · intro s bs rest i hev hd
    simp only [step_rxFrame hev, hd]

/-! A frame taken to its end. -/

theorem CoreState.txAccept_eq (c : CoreState) :
    c.txAccept = if c.exch.txPos + 1 = c.buf.txlen then
      (c.withExch { c.exch with txPos := c.exch.txPos + 1 }).endWrite
    else c.withExch { c.exch with txPos := c.exch.txPos + 1 } := rfl

section
variable {s : State} (hphase : s.core.status.phase = .tx)
include hphase

/-- The last TX_ACCEPT of a frame ends the write phase (R221). -/
theorem acceptByte_last (hlast : s.core.exch.txPos.toNat + 1 = s.core.buf.txlen.toNat) :
    s.acceptByte = (s.withWire (s.wire ++ [.sent s.core.offered])).withCore
      (s.core.withExch { s.core.exch with txPos := s.core.buf.txlen }).endWrite := by
  have hlt : s.core.exch.txPos < s.core.buf.txlen := BitVec.lt_def.mpr (by omega)
  have hpos : s.core.exch.txPos + 1 = s.core.buf.txlen := by bv_omega
  have hoffer : s.core.offering = true := by simp [CoreState.offering, hphase, hlt]
  rw [State.acceptByte, if_pos hoffer, CoreState.txAccept_eq, if_pos hpos, hpos]

/-- Any other TX_ACCEPT only moves on to the next byte (R221). -/
theorem acceptByte_more (hmore : s.core.exch.txPos.toNat + 1 < s.core.buf.txlen.toNat) :
    s.acceptByte = (s.withWire (s.wire ++ [.sent s.core.offered])).withCore
      (s.core.withExch { s.core.exch with txPos := s.core.exch.txPos + 1 }) := by
  have hlt : s.core.exch.txPos < s.core.buf.txlen := BitVec.lt_def.mpr (by omega)
  have hpos : s.core.exch.txPos + 1 ≠ s.core.buf.txlen := by bv_omega
  have hoffer : s.core.offering = true := by simp [CoreState.offering, hphase, hlt]
  rw [State.acceptByte, if_pos hoffer, CoreState.txAccept_eq, if_neg hpos]

end

/-- The bytes of TXBUF that are left in PHASE TX go over the wire in order, and the write phase ends. -/
theorem acceptBytes_to_end {n : Nat} {s : State} (hphase : s.core.status.phase = .tx)
    (hleft : s.core.exch.txPos.toNat + (n + 1) = s.core.buf.txlen.toNat) :
    State.acceptBytes (n + 1) s =
      (s.withWire (s.wire ++ (Memory.readRange s.core.buf.txbuf s.core.exch.txPos.toNat
        (n + 1)).map WireByte.sent)).withCore
          (s.core.withExch { s.core.exch with txPos := s.core.buf.txlen }).endWrite := by
  induction n generalizing s with
  | zero => exact acceptByte_last hphase hleft
  | succ n ih =>
    have hpos : (s.core.exch.txPos + 1).toNat = s.core.exch.txPos.toNat + 1 := by bv_omega
    have hfirst : Memory.readRange s.core.buf.txbuf s.core.exch.txPos.toNat (1 + (n + 1)) =
        s.core.offered :: Memory.readRange s.core.buf.txbuf (s.core.exch.txPos + 1).toNat (n + 1) := by
      rw [Memory.readRange_add, hpos]
      rfl
    have hone := acceptByte_more hphase (by omega)
    have hleft' : (s.core.exch.txPos + 1).toNat + (n + 1) = s.core.buf.txlen.toNat := by omega
    have hrest := ih (s := s.acceptByte) (hone ▸ hphase) (by rw [hone]; exact hleft')
    rw [State.acceptBytes, hrest, Nat.add_comm (n + 1) 1, hfirst, List.map_cons, List.append_cons,
      hone]
    rfl

/-- Settles O33: a row that is on offer is all of TXBUF[0..TXLEN), which is taken to its end, and END_WRITE
opens the read attempt or fails the sequence. -/
theorem sentFramesAreTakenInOrder : Obligations.SentFramesAreTakenInOrder := by
  unfold Obligations.SentFramesAreTakenInOrder
  constructor
  · intro i s hsent _ hoffer
    obtain ⟨hoffering, hpos, hframe⟩ := (s.core.offersFrame_iff _).mp hoffer
    simp only [CoreState.offering, Bool.and_eq_true, beq_iff_eq, decide_eq_true_eq] at hoffering
    obtain ⟨hphase, hlt⟩ := hoffering
    have hlen : (wireBytes i).length = s.core.buf.txlen.toNat := by
      rw [← hframe]
      exact Memory.readRange_length _ _ _
    obtain ⟨n, hn⟩ : ∃ n, s.core.buf.txlen.toNat = n + 1 := ⟨s.core.buf.txlen.toNat - 1, by bv_omega⟩
    have htaken := acceptBytes_to_end (n := n) hphase (by simp [hpos, hn])
    have hbytes : Memory.readRange s.core.buf.txbuf s.core.exch.txPos.toNat (n + 1) = wireBytes i := by
      rw [← hframe, CoreState.txFrame, hn, hpos]
      rfl
    rw [hbytes] at htaken
    rw [exec_of_isSentFrame hsent, State.takeFrame, if_pos hoffer, hlen, hn, htaken]
    refine ⟨_, rfl, rfl, rfl, rfl, rfl, fun hopens => ?_, fun howner hcancel => ?_⟩
    · exact if_neg hopens
    · exact if_pos ⟨howner, hcancel⟩
  · intro i s hsent hoffer
    rw [exec_of_isSentFrame hsent, State.takeFrame, if_neg (by simp [hoffer])]

end Sys2Proof.Machine
end

section
/-! SUPPORT. The exchange unit (R221 to R227): NOP and XCHG, the end of an exchange for its owner, the ticks of
an open read attempt, and CHAN_ERR. -/

namespace Sys2Proof.Machine

/-! Host operations. -/

/-- Settles O10: NOP is `finish`, which writes ERR only. -/
theorem nopWritesErrOnly : Obligations.NopWritesErrOnly := by
  unfold Obligations.NopWritesErrOnly
  exact fun s => rfl

/-- With a frame to write, START_EXCHANGE begins its write phase (R221). -/
theorem CoreState.startExchange_of_txlen {c : CoreState} (h : c.buf.txlen ≠ 0) (w : Owner) :
    c.startExchange w = ((c.withExch { c.exch with owner := w, txPos := 0 }).withBuf
      { c.buf with rxlen := 0 }).withStatus { c.status with phase := .tx } := by
  rcases c.startExchange_cases w with ⟨hempty, -⟩ | ⟨-, heq⟩
  · exact absurd hempty h
  · exact heq

/-- With nothing to write, it opens the read attempt of a standalone exchange at once (R221). -/
theorem CoreState.startExchange_standalone_empty {c : CoreState} (h : c.buf.txlen = 0) :
    c.startExchange .standalone =
      ((c.withExch { c.exch with owner := .standalone, txPos := 0, rxOpen := true, timer := 0 }).withBuf
        { c.buf with rxlen := 0 }).withStatus { c.status with phase := .rx } := by
  rcases c.startExchange_cases .standalone with ⟨-, heq⟩ | ⟨hne, -⟩
  · rw [heq]; rfl
  · exact absurd h hne

/-- Settles O29: XCHG while idle is START_EXCHANGE with XCHG_ACT set and ERR 0. -/
theorem xchgStartsAnExchange : Obligations.XchgStartsAnExchange := by
  unfold Obligations.XchgStartsAnExchange
  have hxchg {s : State} (hidle : s.core.active = false) :
      exec .xchg s = .next (s.withCore (xchgRule s.core)) := hostOp_idle hidle _
  constructor
  · intro s hidle htx
    rw [hxchg hidle, xchgRule, CoreState.startExchange_of_txlen]
    · rfl
    · exact htx
  · intro s hidle htx
    rw [hxchg hidle, xchgRule, CoreState.startExchange_standalone_empty]
    · rfl
    · exact htx

/-! The end of an exchange (R227). -/

/-- The CORE with its channel released, as END_READ hands it to the owner of the exchange. -/
def CoreState.released (c : CoreState) : CoreState :=
  (c.withExch { c.exch with rxOpen := false }).withStatus { c.status with phase := .none }

theorem CoreState.endRead_standalone {c : CoreState} (h : c.exch.owner = .standalone) (p : Params)
    (r : ExchangeOutcome) : c.endRead p r = c.released.xchgEnd r := by
  rcases c.endRead_cases p r with ⟨-, heq⟩ | ⟨howner, -⟩
  · exact heq
  · cases h.symm.trans howner

theorem CoreState.endRead_sequencer {c : CoreState} (h : c.exch.owner = .sequencer) (p : Params)
    (r : ExchangeOutcome) : c.endRead p r = c.released.seqExchangeEnd p r := by
  rcases c.endRead_cases p r with ⟨howner, -⟩ | ⟨-, heq⟩
  · cases h.symm.trans howner
  · exact heq

/-- Settles O40: CHAN_ERR is END_READ(TRANSPORT) in a write phase or a read attempt (R226). -/
theorem channelErrorEndsTheExchange : Obligations.ChannelErrorEndsTheExchange := by
  unfold Obligations.ChannelErrorEndsTheExchange
  refine ⟨?_, ?_, ?_⟩
  · intro s rest hev hbusy howner
    rw [step_chanErr hev, CoreState.chanErr, if_pos hbusy, CoreState.endRead_standalone howner]
    rfl
  · intro s rest hev hbusy howner
    rw [step_chanErr hev, CoreState.chanErr, if_pos hbusy, CoreState.endRead_sequencer howner,
      CoreState.seqExchangeEnd, if_pos rfl]
    rfl
  · intro s rest hev hphase hopen
    rw [step_chanErr hev, CoreState.chanErr, if_neg (by simp [hphase, hopen])]
    rfl

/-! Ticks of an open read attempt (R223). -/

/-- TIMER advances by one tick, and the tick is counted for the state. -/
def CoreState.ticked (c : CoreState) : CoreState :=
  (c.withElapsed (c.elapsed.tick c.status.seq)).tickTimer

theorem CoreState.ticked_timer (c : CoreState) :
    c.ticked.exch.timer.toNat = min (c.exch.timer.toNat + 1) (2 ^ 32 - 1) := satInc_toNat _

section
variable {c : CoreState} (hopen : c.exch.rxOpen = true)
include hopen

/-- The attempt goes on until TIMER exceeds CFG_T_READ. -/
theorem CoreState.tick_reading (p : Params)
    (hwait : min (c.exch.timer.toNat + 1) (2 ^ 32 - 1) ≤ c.cfg.tRead.toNat) :
    c.tick p = c.ticked := by
  rw [← c.ticked_timer] at hwait
  rcases c.tick_cases p with ⟨-, -, heq⟩ | ⟨-, hlt, -⟩ | ⟨hclosed, -⟩ | ⟨hclosed, -⟩
  · exact heq
  · exact absurd hwait (Nat.not_le.mpr (BitVec.lt_def.mp hlt))
  · cases hopen.symm.trans hclosed
  · cases hopen.symm.trans hclosed

/-- The tick that brings TIMER above CFG_T_READ ends the attempt. -/
theorem CoreState.tick_endsRead (p : Params)
    (hend : c.cfg.tRead.toNat < min (c.exch.timer.toNat + 1) (2 ^ 32 - 1)) :
    c.tick p = c.ticked.endRead p (if c.buf.rxlen = 0 then .none else .bytes) := by
  rw [← c.ticked_timer] at hend
  rcases c.tick_cases p with ⟨-, hle, -⟩ | ⟨-, -, heq⟩ | ⟨hclosed, -⟩ | ⟨hclosed, -⟩
  · exact absurd hend (Nat.not_lt.mpr (BitVec.le_def.mp hle))
  · exact heq
  · cases hopen.symm.trans hclosed
  · cases hopen.symm.trans hclosed

end

/-- d is c after k ticks of its silent read attempt, which is still open. -/
structure SilentFor (c : CoreState) (k : Nat) (d : CoreState) : Prop where
  exch : d.exch = { c.exch with timer := BitVec.ofNat 32 k }
  cfg : d.cfg = c.cfg
  buf : d.buf = c.buf

namespace SilentFor
variable {c d : CoreState} {k : Nat} (h : SilentFor c k d)
include h

theorem rxOpen (hopen : c.exch.rxOpen = true) : d.exch.rxOpen = true := by rw [h.exch]; exact hopen

theorem owner (howner : c.exch.owner = .standalone) : d.exch.owner = .standalone := by
  rw [h.exch]; exact howner

theorem timer (hk : k ≤ c.cfg.tRead.toNat) : d.exch.timer.toNat = k := by
  rw [h.exch, BitVec.toNat_ofNat]; omega

theorem tick (hopen : c.exch.rxOpen = true) (hk : k + 1 ≤ c.cfg.tRead.toNat) (p : Params) :
    SilentFor c (k + 1) (d.tick p) := by
  have hmax := c.cfg.tRead.isLt
  have hnow := h.timer (by omega)
  have htimer : d.ticked.exch.timer = BitVec.ofNat 32 (k + 1) :=
    BitVec.eq_of_toNat_eq (by rw [CoreState.ticked_timer, hnow, BitVec.toNat_ofNat]; omega)
  have hexch : d.ticked.exch = { d.exch with timer := d.ticked.exch.timer } := rfl
  rw [CoreState.tick_reading (h.rxOpen hopen) p (by rw [hnow, h.cfg]; omega)]
  exact ⟨by rw [hexch, htimer, h.exch], h.cfg, h.buf⟩

end SilentFor

/-- With nothing received, an attempt of CFG_T_READ ticks is still open after k of them. -/
theorem CoreState.ticks_silent {c : CoreState} (hopen : c.exch.rxOpen = true)
    (htimer : c.exch.timer = 0) (p : Params) {k : Nat} (hk : k ≤ c.cfg.tRead.toNat) :
    SilentFor c k ((CoreState.tick p)^[k] c) := by
  induction k with
  | zero => exact ⟨congrArg (fun t => { c.exch with timer := t }) htimer, rfl, rfl⟩
  | succ k ih =>
    rw [Function.iterate_succ_apply']
    exact (ih (by omega)).tick hopen hk p

theorem iterate_tick_core (k : Nat) (s : State) :
    ((fun s : State => s.withCore (s.core.tick s.params))^[k] s).core =
      (CoreState.tick s.params)^[k] s.core := by
  induction k generalizing s with
  | zero => rfl
  | succ k ih => exact ih _

/-- A run of ticks is the tick of the CORE again and again. -/
theorem runSteps_ticks (k : Nat) (s : State) :
    ∃ t, runSteps k (s.withEvents (List.replicate k Event.tick)) = .next t ∧
      t.core = (CoreState.tick s.params)^[k] s.core := by
  have hrun := runSteps_replicate (f := fun s => s.withCore (s.core.tick s.params))
    (fun _ _ => step_tick) (fun _ _ => rfl) k s []
  rw [List.append_nil] at hrun
  exact ⟨_, hrun, iterate_tick_core k _⟩

/-- Settles O35: the attempt is open with TIMER = CFG_T_READ after that many ticks, and the next one ends
it. -/
theorem silentReadAttemptTimesOut : Obligations.SilentReadAttemptTimesOut := by
  unfold Obligations.SilentReadAttemptTimesOut
  intro s hopen howner htimer hsilent hmax
  constructor
  · intro k hk
    obtain ⟨t, hrun, hcore⟩ := runSteps_ticks k s
    have hsame := CoreState.ticks_silent hopen htimer s.params hk
    rw [← hcore] at hsame
    exact ⟨t, hrun, hsame.rxOpen hopen, hsame.timer hk⟩
  · obtain ⟨t, hrun, hcore⟩ := runSteps_ticks (s.core.cfg.tRead.toNat + 1) s
    have hsame := CoreState.ticks_silent hopen htimer s.params (Nat.le_refl _)
    rw [Function.iterate_succ_apply'] at hcore
    generalize (CoreState.tick s.params)^[s.core.cfg.tRead.toNat] s.core = c at hsame hcore
    have hlast : s.core.cfg.tRead.toNat < min (c.exch.timer.toNat + 1) (2 ^ 32 - 1) := by
      rw [hsame.timer (Nat.le_refl _)]; omega
    rw [CoreState.tick_endsRead (hsame.rxOpen hopen) _ (hsame.cfg ▸ hlast), hsame.buf, if_pos hsilent,
      CoreState.endRead_standalone (c := c.ticked) (hsame.owner howner)] at hcore
    refine ⟨t, hrun, ?_⟩
    rw [hcore]
    exact ⟨rfl, rfl, rfl, rfl, hsame.buf⟩

end Sys2Proof.Machine
end

section
/-! SUPPORT. Responses (R222, R254, R255): the bytes that a read attempt stores, the response that ends a
standalone exchange, and the end of a read attempt of Registering or Transferring. -/

namespace Sys2Proof.Machine

/-! The bytes of a read attempt. -/

/-- A frame does not begin with a shorter one: the length byte is in both. -/
theorem IsFrame.eq_of_prefix {bs pre : List Byte} (hbs : IsFrame bs) (hpre : IsFrame pre)
    (h : pre <+: bs) : pre = bs := by
  obtain ⟨hlong, hlen⟩ := hpre
  have hbyte : byteAt bs 2 = byteAt pre 2 := by
    obtain ⟨rest, rfl⟩ := h
    exact List.getD_append _ _ _ _ hlong
  refine h.eq_of_length ?_
  rw [hlen, hbs.2, hbyte]

theorem IsFrame.length_le {bs : List Byte} (h : IsFrame bs) : bs.length ≤ 260 := by
  have := (byteAt bs 2).isLt
  rw [h.2]; omega

section
variable {c : CoreState} (hopen : c.exch.rxOpen = true)
  (hwf : Memory.wf Config.frameMax c.buf.rxbuf = true) (hroom : c.buf.rxlen.toNat < 260)
include hwf hroom

/-- R222's test for the end of the attempt, in the terms of the bytes received. -/
theorem CoreState.storeRx_complete_iff (p : Params) (b : Byte) :
    ((3 ≤ (c.storeRx p b).buf.rxlen.toNat ∧ (c.storeRx p b).buf.rxlen.toNat =
        (Memory.read (c.storeRx p b).buf.rxbuf 2).toNat + 5) ∨
      (c.storeRx p b).buf.rxlen.toNat = p.frameMax.val) ↔
    IsFrame (c.rxBytes ++ [b]) ∨ (c.rxBytes ++ [b]).length = 260 := by
  have hlen : (c.storeRx p b).rxBytes.length = (c.storeRx p b).buf.rxlen.toNat :=
    Memory.readRange_length _ _ _
  rw [← CoreState.parseOk_rxBytes_iff, parseOk_iff, ← hlen, CoreState.storeRx_rxBytes p c b hwf hroom,
    Fixed.val_eq, Config.frameMax]

include hopen

theorem CoreState.rxByte_ends (p : Params) {b : Byte}
    (hend : IsFrame (c.rxBytes ++ [b]) ∨ (c.rxBytes ++ [b]).length = 260) :
    c.rxByte p b = (c.storeRx p b).endRead p .bytes := by
  rw [← CoreState.storeRx_complete_iff hwf hroom p] at hend
  rcases c.rxByte_cases p b with ⟨hclosed, -⟩ | ⟨-, heq, -⟩ | ⟨-, -, hframe, hfull⟩
  · cases hopen.symm.trans hclosed
  · exact heq
  · exact (hend.elim hframe hfull).elim

theorem CoreState.rxByte_stores (p : Params) {b : Byte}
    (hmore : ¬ (IsFrame (c.rxBytes ++ [b]) ∨ (c.rxBytes ++ [b]).length = 260)) :
    c.rxByte p b = c.storeRx p b := by
  rw [← CoreState.storeRx_complete_iff hwf hroom p] at hmore
  rcases c.rxByte_cases p b with ⟨hclosed, -⟩ | ⟨-, -, hend⟩ | ⟨-, heq, -⟩
  · cases hopen.symm.trans hclosed
  · exact absurd hend hmore
  · exact heq

end

theorem deliverBytes_core (s : State) (bs : List Byte) :
    (s.deliverBytes bs).core = bs.foldl (CoreState.rxByte s.params) s.core := by
  induction bs generalizing s with
  | nil => rfl
  | cons b bs ih => exact ih (s.deliverByte b)

/-- With no read attempt open every byte is lost. -/
theorem CoreState.foldl_rxByte_lost {c : CoreState} (hclosed : c.exch.rxOpen = false) (p : Params)
    (bs : List Byte) : bs.foldl (CoreState.rxByte p) c = c := by
  induction bs with
  | nil => rfl
  | cons b bs ih =>
    have hlost : c.rxByte p b = c := by simp [CoreState.rxByte, hclosed]
    rw [List.foldl_cons, hlost, ih]

/-- d is c with these bytes in RXBUF. -/
structure Received (c : CoreState) (bs : List Byte) (d : CoreState) : Prop where
  only : ∃ rxbuf rxlen, d = c.withBuf { c.buf with rxbuf := rxbuf, rxlen := rxlen }
  wf : Memory.wf Config.frameMax d.buf.rxbuf = true
  rxBytes : d.rxBytes = bs

namespace Received
variable {c d : CoreState} {bs : List Byte} (h : Received c bs d)
include h

theorem exch : d.exch = c.exch := by
  obtain ⟨rxbuf, rxlen, rfl⟩ := h.only
  rfl

theorem rxlen : d.buf.rxlen.toNat = bs.length := by
  rw [← h.rxBytes]
  exact (Memory.readRange_length _ _ _).symm

theorem storeRx (hroom : bs.length < 260) (p : Params) (b : Byte) :
    Received c (bs ++ [b]) (d.storeRx p b) where
  only := by
    obtain ⟨rxbuf, rxlen, rfl⟩ := h.only
    exact ⟨_, _, CoreState.storeRx_eq _ _ _⟩
  wf := by
    rw [CoreState.storeRx_eq]
    exact Memory.write_wf h.wf _ b
  rxBytes := by rw [CoreState.storeRx_rxBytes p d b h.wf (h.rxlen ▸ hroom), h.rxBytes]

end Received

/-- A read attempt in which nothing has arrived stores a frame up to its last byte. -/
theorem CoreState.foldl_rxByte_prefix {c : CoreState} (hopen : c.exch.rxOpen = true)
    (hwf : Memory.wf Config.frameMax c.buf.rxbuf = true) (hempty : c.buf.rxlen = 0) (p : Params)
    {bs pre : List Byte} (hframe : IsFrame bs) (hpre : pre <+: bs) (hne : pre ≠ bs) :
    Received c pre (pre.foldl (CoreState.rxByte p) c) := by
  induction pre using List.reverseRecOn with
  | nil => exact ⟨⟨_, _, rfl⟩, hwf, by simp [CoreState.rxBytes, hempty, Memory.readRange]⟩
  | append_singleton pre b ih =>
    have hshort : (pre ++ [b]).length < bs.length :=
      lt_of_le_of_ne hpre.length_le fun h => hne (hpre.eq_of_length h)
    rw [List.length_append, List.length_singleton] at hshort
    have hmax := hframe.length_le
    have hstored := ih ((List.prefix_append _ _).trans hpre) (by rintro rfl; omega)
    have hmore : ¬ (IsFrame (pre ++ [b]) ∨ (pre ++ [b]).length = 260) := by
      rintro (hpreframe | hfull)
      · exact hne (hframe.eq_of_prefix hpreframe hpre)
      · rw [List.length_append, List.length_singleton] at hfull; omega
    rw [List.foldl_append, List.foldl_cons, List.foldl_nil,
      CoreState.rxByte_stores (hstored.exch ▸ hopen) hstored.wf (by rw [hstored.rxlen]; omega) p
        (hstored.rxBytes.symm ▸ hmore)]
    exact hstored.storeRx (by omega) p b

/-- A read attempt in which nothing has arrived stores a whole frame and ends with its last byte. -/
theorem CoreState.foldl_rxByte_frame {c : CoreState} (hopen : c.exch.rxOpen = true)
    (hwf : Memory.wf Config.frameMax c.buf.rxbuf = true) (hempty : c.buf.rxlen = 0) (p : Params)
    {bs : List Byte} (hframe : IsFrame bs) :
    ∃ d, Received c bs d ∧ bs.foldl (CoreState.rxByte p) c = d.endRead p .bytes := by
  rcases bs.eq_nil_or_concat' with rfl | ⟨pre, b, rfl⟩
  · exact absurd hframe.1 (by decide)
  · have hlen : pre.length + 1 ≤ 260 := by simpa using hframe.length_le
    have hstored := CoreState.foldl_rxByte_prefix hopen hwf hempty p hframe (List.prefix_append _ _)
      (by simp)
    refine ⟨_, hstored.storeRx (by omega) p b, ?_⟩
    rw [List.foldl_append, List.foldl_cons, List.foldl_nil]
    exact CoreState.rxByte_ends (hstored.exch ▸ hopen) hstored.wf (by rw [hstored.rxlen]; omega) p
      (.inl (hstored.rxBytes.symm ▸ hframe))

/-- A frame whose last byte ends a standalone exchange (R222, R225). -/
theorem CoreState.foldl_rxByte_standalone {c : CoreState} (hopen : c.exch.rxOpen = true)
    (hwf : Memory.wf Config.frameMax c.buf.rxbuf = true) (hempty : c.buf.rxlen = 0)
    (howner : c.exch.owner = .standalone) (p : Params) {bs : List Byte} (hframe : IsFrame bs) :
    ∃ d, Received c bs d ∧ bs.foldl (CoreState.rxByte p) c = d.released.xchgEnd .bytes := by
  obtain ⟨d, hreceived, heq⟩ := CoreState.foldl_rxByte_frame hopen hwf hempty p hframe
  exact ⟨d, hreceived, heq.trans (CoreState.endRead_standalone (hreceived.exch ▸ howner) p _)⟩

/-! The end of a read attempt of Registering or Transferring (R254, R255). -/

/-- What the end of an attempt decides: a frame is a reply; without one, the step is retried once. -/
theorem CoreState.seqExchangeEnd_step (p : Params) {c : CoreState} {bs : List Byte}
    (hbs : c.rxBytes = bs) (hseq : c.status.seq ≠ .verifyingBalance) :
    c.seqExchangeEnd p (if bs = [] then .none else .bytes) =
      if IsFrame bs then c.noteReply.settle
      else if c.seqInfo.retryUsed = false then
        (c.withSeqInfo { c.seqInfo with retryUsed := true }).startExchange .sequencer
      else c.noteTimeout.settle := by
  have hr : (if bs = [] then ExchangeOutcome.none else .bytes) ≠ .transport := by split <;> nofun
  have hreply : (if bs = [] then ExchangeOutcome.none else .bytes) = .bytes ∧ parseOk c.rxBytes = true ↔
      IsFrame bs := by
    rw [hbs, parseOk_iff]
    refine ⟨fun h => h.2, fun h => ⟨if_neg ?_, h⟩⟩
    rintro rfl
    exact absurd h.1 (by decide)
  simp only [CoreState.seqExchangeEnd, if_neg hr, if_neg hseq, hreply, SeqInfo.retriesDone_lt]

/-- d is c with the read attempt of its step over, these bytes received, and the settle wait begun. -/
structure StepSettled (c : CoreState) (bs : List Byte) (d : CoreState) : Prop where
  status : d.status = { c.status with seq := c.status.seq.settled, phase := .wait }
  exch : d.exch = { c.exch with rxOpen := false, timer := 0 }
  rxBytes : d.rxBytes = bs
  buf : OnlyRxbufChanged c d
  bal : d.bal = c.bal
  txidLast : d.txidLast = c.txidLast
  req : d.req = c.req

/-- d is c with the read attempt of its step over, and the exchange of the same frame started again. -/
structure StepResent (c d : CoreState) : Prop where
  status : d.status = { c.status with phase := .tx }
  rxlen : d.buf.rxlen = 0
  buf : OnlyRxbufChanged c d
  txPos : d.exch.txPos = 0
  rxOpen : d.exch.rxOpen = false
  owner : d.exch.owner = .sequencer
  seqInfo : d.seqInfo = { c.seqInfo with retryUsed := true }
  txidLast : d.txidLast = c.txidLast
  req : d.req = c.req

theorem StepSettled.status_of {c d : CoreState} {bs : List Byte} {q : SeqState}
    (h : StepSettled c bs d) (hseq : c.status.seq = q) :
    d.status = { c.status with seq := q.settled, phase := .wait } := hseq ▸ h.status

/-- SEQ_INFO names the step that was replied to, or that had no response. -/
theorem CoreState.note_registering {c : CoreState} (h : c.status.seq = .registering) :
    c.noteReply.seqInfo = { c.seqInfo with regReplied := true } ∧
      c.noteTimeout.seqInfo = { c.seqInfo with toReg := true } :=
  ⟨if_pos h, if_pos h⟩

theorem CoreState.note_transferring {c : CoreState} (h : c.status.seq = .transferring) :
    c.noteReply.seqInfo = { c.seqInfo with xferReplied := true } ∧
      c.noteTimeout.seqInfo = { c.seqInfo with toXfer := true } :=
  have hne : c.status.seq ≠ .registering := by rw [h]; decide
  ⟨if_neg hne, if_neg hne⟩

section
variable {s : State} {e : Event} {rest : List Event} {bs : List Byte} (hev : s.events = e :: rest)
  (hopen : s.core.exch.rxOpen = true) (howner : s.core.exch.owner = .sequencer)
  (hend : EndsReadAttempt s.core e bs) (hseq : s.core.status.seq ≠ .verifyingBalance)
include hev hopen howner hend hseq

/-- A frame is the reply of the step, whatever it holds (R254). -/
theorem step_replies (hframe : IsFrame bs) :
    ∃ t, step s = .next t ∧ StepSettled s.core bs t.core ∧
      t.core.seqInfo = s.core.noteReply.seqInfo := by
  obtain ⟨t, rxbuf, rxlen, el, tm, hstep, hcore, hbs, -⟩ :=
    step_endsReadAttempt hev hopen howner hend
  rw [CoreState.seqExchangeEnd_step _ hbs hseq, if_pos hframe] at hcore
  refine ⟨t, hstep, ?_⟩
  rw [hcore]
  exact ⟨⟨rfl, rfl, hbs, rfl, rfl, rfl, rfl⟩, rfl⟩

/-- Without a frame, and the retry used, the step is given up (R255). -/
theorem step_givesUp (hframe : ¬ IsFrame bs) (hretry : s.core.seqInfo.retryUsed = true) :
    ∃ t, step s = .next t ∧ StepSettled s.core bs t.core ∧
      t.core.seqInfo = s.core.noteTimeout.seqInfo ∧ (e = .tick → t.core.buf = s.core.buf) := by
  obtain ⟨t, rxbuf, rxlen, el, tm, hstep, hcore, hbs, htick⟩ :=
    step_endsReadAttempt hev hopen howner hend
  have hused : (attemptEnded s.core rxbuf rxlen el tm).seqInfo.retryUsed ≠ false :=
    ne_of_eq_of_ne hretry (by decide)
  rw [CoreState.seqExchangeEnd_step _ hbs hseq, if_neg hframe, if_neg hused] at hcore
  refine ⟨t, hstep, ?_⟩
  rw [hcore]
  refine ⟨⟨rfl, rfl, hbs, rfl, rfl, rfl, rfl⟩, rfl, fun he => ?_⟩
  obtain ⟨rfl, rfl⟩ := htick he
  rfl

/-- Without a frame, and the retry unused, the same exchange is started again (R254). -/
theorem step_resends (hframe : ¬ IsFrame bs) (hretry : s.core.seqInfo.retryUsed = false)
    (htx : s.core.buf.txlen ≠ 0) :
    ∃ t, step s = .next t ∧ StepResent s.core t.core ∧
      (e = .tick → t.core.buf.rxbuf = s.core.buf.rxbuf) := by
  obtain ⟨t, rxbuf, rxlen, el, tm, hstep, hcore, hbs, htick⟩ :=
    step_endsReadAttempt hev hopen howner hend
  have hunused : (attemptEnded s.core rxbuf rxlen el tm).seqInfo.retryUsed = false := hretry
  rw [CoreState.seqExchangeEnd_step _ hbs hseq, if_neg hframe, if_pos hunused] at hcore
  refine ⟨t, hstep, ?_⟩
  rw [hcore, CoreState.startExchange_of_txlen]
  · exact ⟨⟨rfl, rfl, rfl, rfl, rfl, rfl, rfl, rfl, rfl⟩, fun he => (htick he).1⟩
  · exact htx

end

/-- Settles O34: a delivered row is the run of its bytes; a standalone attempt stores them up to the frame's
end; a frame that ends a step's attempt is its reply. -/
theorem receivedFramesAreDelivered : Obligations.ReceivedFramesAreDelivered := by
  unfold Obligations.ReceivedFramesAreDelivered
  refine ⟨?_, ?_, ?_⟩
  · intro i s hi
    obtain ⟨hparams, hevents, hread, hwire⟩ := deliverBytes_keeps s (wireBytes i)
    refine ⟨_, exec_of_isReceivedFrame hi s, hparams, hevents, hread, hwire, fun hclosed => ?_⟩
    rw [deliverBytes_core, CoreState.foldl_rxByte_lost hclosed]
  · intro i s hi _ hcanonical hopen hempty howner hlen
    obtain ⟨-, -, hwf, -⟩ := hcanonical
    obtain ⟨d, hreceived, heq⟩ := CoreState.foldl_rxByte_standalone hopen hwf hempty howner s.params
      (bs := wireBytes i) ⟨by omega, hlen⟩
    refine ⟨_, exec_of_isReceivedFrame hi s, ?_⟩
    rw [deliverBytes_core, heq]
    refine ⟨hreceived.rxBytes, ?_⟩
    obtain ⟨rxbuf, rxlen, rfl⟩ := hreceived.only
    exact ⟨rfl, rfl, rfl, rfl, rfl, rfl⟩
  · intro s e rest bs hev hopen howner hend hframe
    constructor
    · intro hseq
      obtain ⟨t, hstep, hsettled, hinfo⟩ :=
        step_replies hev hopen howner hend (by rw [hseq]; decide) hframe
      exact ⟨t, hstep, hsettled.status_of hseq, hinfo.trans (CoreState.note_registering hseq).1,
        hsettled.exch, hsettled.rxBytes, hsettled.buf, hsettled.bal, hsettled.txidLast, hsettled.req⟩
    · intro hseq
      obtain ⟨t, hstep, hsettled, hinfo⟩ :=
        step_replies hev hopen howner hend (by rw [hseq]; decide) hframe
      exact ⟨t, hstep, hsettled.status_of hseq, hinfo.trans (CoreState.note_transferring hseq).1,
        hsettled.exch, hsettled.rxBytes, hsettled.buf, hsettled.bal, hsettled.txidLast, hsettled.req⟩

/-- Settles O37: without a frame the exchange is started again (`step_resends`) or the step given up
(`step_givesUp`). -/
theorem timedOutStepResendsTheSameFrame : Obligations.TimedOutStepResendsTheSameFrame := by
  unfold Obligations.TimedOutStepResendsTheSameFrame
  intro s e rest bs hev hopen howner hend hframe
  refine ⟨?_, ?_, ?_⟩
  · intro hseq hretry htx
    have hne : s.core.status.seq ≠ .verifyingBalance := by
      rcases hseq with hseq | hseq <;> rw [hseq] <;> decide
    obtain ⟨t, hstep, hresent, htick⟩ := step_resends hev hopen howner hend hne hframe hretry htx
    exact ⟨t, hstep, hresent.status, hresent.rxlen, hresent.buf, htick, hresent.txPos, hresent.rxOpen,
      hresent.owner, hresent.seqInfo, hresent.txidLast, hresent.req⟩
  · intro hseq hretry
    obtain ⟨t, hstep, hsettled, hinfo, htick⟩ :=
      step_givesUp hev hopen howner hend (by rw [hseq]; decide) hframe hretry
    exact ⟨t, hstep, hsettled.status_of hseq, hinfo.trans (CoreState.note_registering hseq).2,
      hsettled.exch, hsettled.rxBytes, hsettled.buf, htick, hsettled.txidLast, hsettled.req⟩
  · intro hseq hretry
    obtain ⟨t, hstep, hsettled, hinfo, htick⟩ :=
      step_givesUp hev hopen howner hend (by rw [hseq]; decide) hframe hretry
    exact ⟨t, hstep, hsettled.status_of hseq, hinfo.trans (CoreState.note_transferring hseq).2,
      hsettled.exch, hsettled.rxBytes, hsettled.buf, htick, hsettled.txidLast, hsettled.req⟩

end Sys2Proof.Machine
end

section
/-! SUPPORT. What a reaction does to the sequencer (R240): the moves that an exchange makes (`SeqMove`), and with
the host operations and the ends of the waits all that a reaction can do (`SeqChange`). -/

namespace Sys2Proof.Machine

/-! Moves of an exchange. -/

/-- No read attempt is open and no byte is on offer. -/
def Quiet (c : CoreState) : Prop := c.exch.rxOpen = false ∧ c.status.phase ≠ .tx

/-- While the CORE is quiet, bytes are lost and none is taken (R221, R222). -/
theorem Quiet.wireStep {p : Params} {c d : CoreState} (hc : Quiet c) (h : WireStep p c d) : d = c := by
  obtain ⟨hopen, hphase⟩ := hc
  cases h with
  | accept hoffer =>
    simp only [CoreState.offering, Bool.and_eq_true, beq_iff_eq] at hoffer
    exact absurd hoffer.1 hphase
  | receive b => simp [CoreState.rxByte, hopen]

/-- What an exchange does to the sequence that owns it: nothing, or it ends the step, the sequence or its
polls, and the CORE is quiet. It fails only by `err` or by a cancel that was pending. -/
inductive SeqMove (err : Prop) (c d : CoreState) : Prop
  | keeps (txid : d.txidLast = c.txidLast) (seq : d.status.seq = c.status.seq)
      (cancel : d.status.cancelPending = c.status.cancelPending)
  | settles (txid : d.txidLast = c.txidLast) (seq : d.status.seq = c.status.seq.settled)
      (cancel : d.status.cancelPending = c.status.cancelPending) (quiet : Quiet d)
  | polled (txid : d.txidLast = c.txidLast) (verifying : c.status.seq = .verifyingBalance)
      (seq : d.status.seq = .done ∨ d.status.seq = .doneUnconfirmed)
      (cancel : d.status.cancelPending = false) (quiet : Quiet d)
  | fails (txid : d.txidLast = c.txidLast) (cause : err ∨ c.status.cancelPending = true)
      (seq : d.status.seq = .failed) (cancel : d.status.cancelPending = false) (quiet : Quiet d)

namespace SeqMove
variable {err : Prop} {c c' d : CoreState}

/-- A move reads nothing of its start but SEQ_STATE, CANCEL_PENDING and TXID_LAST. -/
theorem of_same (h : SeqMove err c' d) (htxid : c'.txidLast = c.txidLast)
    (hseq : c'.status.seq = c.status.seq)
    (hcancel : c'.status.cancelPending = c.status.cancelPending) : SeqMove err c d := by
  cases h with
  | keeps txid seq cancel => exact .keeps (txid.trans htxid) (seq.trans hseq) (cancel.trans hcancel)
  | settles txid seq cancel quiet =>
    exact .settles (txid.trans htxid) (hseq ▸ seq) (cancel.trans hcancel) quiet
  | polled txid verifying seq cancel quiet =>
    exact .polled (txid.trans htxid) (hseq ▸ verifying) seq cancel quiet
  | fails txid cause seq cancel quiet =>
    exact .fails (txid.trans htxid) (hcancel ▸ cause) seq cancel quiet

theorem mono {err' : Prop} (h : SeqMove err c d) (himp : err → err') : SeqMove err' c d := by
  cases h with
  | keeps txid seq cancel => exact .keeps txid seq cancel
  | settles txid seq cancel quiet => exact .settles txid seq cancel quiet
  | polled txid verifying seq cancel quiet => exact .polled txid verifying seq cancel quiet
  | fails txid cause seq cancel quiet => exact .fails txid (cause.imp_left himp) seq cancel quiet

theorem endWrite (c : CoreState) : SeqMove False c c.endWrite := by
  rcases c.endWrite_cases with ⟨-, hcancel, heq⟩ | ⟨-, heq⟩ <;> rw [heq]
  · exact .fails rfl (.inr hcancel) rfl rfl ⟨rfl, nofun⟩
  · exact .keeps rfl rfl rfl

theorem startExchange (c : CoreState) (w : Owner) : SeqMove False c (c.startExchange w) := by
  rcases c.startExchange_cases w with ⟨-, heq⟩ | ⟨-, heq⟩ <;> rw [heq]
  · exact (endWrite _).of_same rfl rfl rfl
  · exact .keeps rfl rfl rfl

theorem pollDecide (hseq : c.status.seq = .verifyingBalance) (ok : Bool) :
    SeqMove False c (c.pollDecide ok) := by
  rcases c.pollDecide_cases ok with ⟨-, -, heq⟩ | ⟨-, -, heq⟩ | ⟨-, -, heq⟩ <;> rw [heq]
  · exact .polled rfl hseq (.inl rfl) rfl ⟨rfl, nofun⟩
  · exact .polled rfl hseq (.inr rfl) rfl ⟨rfl, nofun⟩
  · exact .keeps rfl rfl rfl

theorem pollEnd (p : Params) (hseq : c.status.seq = .verifyingBalance) (r : ExchangeOutcome) :
    SeqMove False c (c.pollEnd p r) := by
  rcases c.pollEnd_cases p r with ⟨e, -, hbody, heq⟩ | ⟨-, heq⟩ <;> rw [heq]
  · obtain ⟨b, -, -, rfl⟩ := balanceBody_ok hbody
    refine of_same (pollDecide ?_ true) rfl rfl rfl
    exact hseq
  · refine of_same (pollDecide ?_ false) rfl rfl rfl
    exact hseq

/-- A sequence's exchange that is over settles its step, ends or goes on with its polls, or is started
again; a transport error fails the sequence (R254). -/
theorem seqExchangeEnd (p : Params) (hopen : c.exch.rxOpen = false) (r : ExchangeOutcome) :
    SeqMove (r = .transport) c (c.seqExchangeEnd p r) := by
  rcases c.seqExchangeEnd_cases p r with
    ⟨hr, heq⟩ | ⟨-, hseq, heq⟩ | ⟨-, -, -, heq⟩ | ⟨-, -, -, -, heq⟩ | ⟨-, -, -, -, heq⟩ <;> rw [heq]
  · exact .fails rfl (.inl hr) rfl rfl ⟨rfl, nofun⟩
  · exact (pollEnd p hseq r).mono False.elim
  · exact .settles rfl rfl rfl ⟨hopen, nofun⟩
  · exact ((startExchange _ _).mono False.elim).of_same rfl rfl rfl
  · exact .settles rfl rfl rfl ⟨hopen, nofun⟩

theorem endRead (p : Params) (c : CoreState) (r : ExchangeOutcome) :
    SeqMove (r = .transport ∧ c.exch.owner = .sequencer) c (c.endRead p r) := by
  rcases c.endRead_cases p r with ⟨-, heq⟩ | ⟨howner, heq⟩ <;> rw [heq]
  · exact .keeps rfl rfl rfl
  · exact ((seqExchangeEnd p rfl r).mono fun hr => ⟨hr, howner⟩).of_same rfl rfl rfl

theorem endRead_received (p : Params) (c : CoreState) {r : ExchangeOutcome} (hr : r ≠ .transport) :
    SeqMove False c (c.endRead p r) := (endRead p c r).mono fun h => hr h.1

theorem wireStep {p : Params} (h : WireStep p c d) : SeqMove False c d := by
  cases h with
  | accept =>
    rw [CoreState.txAccept_eq]
    split
    · exact (endWrite _).of_same rfl rfl rfl
    · exact .keeps rfl rfl rfl
  | receive b =>
    rcases c.rxByte_cases p b with ⟨-, heq⟩ | ⟨-, heq, -⟩ | ⟨-, heq, -⟩ <;> rw [heq]
    · exact .keeps rfl rfl rfl
    · exact (endRead_received p (c.storeRx p b) (by decide)).of_same rfl rfl rfl
    · exact .keeps rfl rfl rfl

/-- Any run of bytes is one move: after a step or a sequence ended, the rest of the bytes are lost. -/
theorem run {p : Params} (h : Relation.ReflTransGen (WireStep p) c d) : SeqMove False c d := by
  refine WireStep.run_keeps (I := fun d => SeqMove False c d) ?_ (.keeps rfl rfl rfl) h
  intro d d' hd hstep
  have hend (hquiet : Quiet d) : SeqMove False c d' := by rwa [hquiet.wireStep hstep]
  cases hd with
  | keeps txid seq cancel => exact (wireStep hstep).of_same txid seq cancel
  | settles _ _ _ quiet => exact hend quiet
  | polled _ _ _ _ quiet => exact hend quiet
  | fails _ _ _ _ quiet => exact hend quiet

theorem chanErr (p : Params) (c : CoreState) :
    SeqMove ((c.status.phase = .tx ∨ c.exch.rxOpen = true) ∧ c.exch.owner = .sequencer) c
      (c.chanErr p) := by
  unfold CoreState.chanErr
  split
  · rename_i hbusy
    exact (endRead p c .transport).mono fun h => ⟨hbusy, h.2⟩
  · exact .keeps rfl rfl rfl

/-- Without a cause to fail, a sequence does not fail, and no cancel comes up. -/
theorem unfailed (h : SeqMove False c d) (hseq : c.status.seq ≠ .failed)
    (hcancel : c.status.cancelPending = false) :
    d.status.seq ≠ .failed ∧ d.status.cancelPending = false := by
  cases h with
  | keeps _ seq cancel => exact ⟨seq ▸ hseq, cancel.trans hcancel⟩
  | settles _ seq cancel _ =>
    refine ⟨?_, cancel.trans hcancel⟩
    rw [seq]
    revert hseq
    cases c.status.seq <;> decide
  | polled _ _ seq cancel _ => exact ⟨by rcases seq with h | h <;> rw [h] <;> decide, cancel⟩
  | fails _ cause _ _ _ => simp [hcancel] at cause

end SeqMove

/-! The frames that the sequencer puts on offer (R180, R183, R186, R221). -/

/-- The memories with the frame f to transmit, and the last response discarded. -/
def Buffers.offer (b : Buffers) (f : List Byte) : Buffers :=
  { b with txbuf := Memory.writeRange Config.frameMax b.txbuf 0 f
           txlen := BitVec.ofNat 9 f.length
           rxlen := 0 }

section
variable {f : List Byte} (hmax : f.length ≤ 260)
include hmax

theorem Buffers.offer_txlen (b : Buffers) : (b.offer f).txlen.toNat = f.length := by
  simp [Buffers.offer]; omega

theorem Buffers.offer_txbuf {b : Buffers} (hb : Memory.wf Config.frameMax b.txbuf = true) :
    Memory.readRange (b.offer f).txbuf 0 f.length = f ∧
      ∀ a, f.length ≤ a → Memory.read (b.offer f).txbuf a = Memory.read b.txbuf a := by
  refine ⟨Memory.readRange_writeRange hb f hmax, fun a ha => ?_⟩
  have hfit : 0 + f.length ≤ Config.frameMax := by rw [Nat.zero_add]; exact hmax
  exact (Memory.read_writeRange hb 0 f hfit a).trans (if_neg (by omega))

/-- START_EXCHANGE after a frame was loaded begins the write phase of that frame. -/
theorem CoreState.startExchange_loaded {p : Params} {c d : CoreState} (hne : f ≠ [])
    (hbuf : d.buf = (c.loadTx p f).buf) (w : Owner) :
    d.startExchange w = ((d.withExch { d.exch with owner := w, txPos := 0 }).withBuf
      (c.buf.offer f)).withStatus { d.status with phase := .tx } := by
  have hlen := List.length_pos_iff.mpr hne
  have htx : d.buf.txlen ≠ 0 := fun h => by
    have := c.loadTx_txlen p hmax
    rw [← hbuf, h] at this
    simp at this
    omega
  rw [CoreState.startExchange_of_txlen htx, hbuf, CoreState.loadTx_eq]
  rfl

end

/-! What the sequencer does where it puts a frame f on offer (R250, R256, R257). -/

/-- The CORE after a registration was begun: the request latched, the record cleared, and the snapshot
taken. -/
def CoreState.registrationBegun (c : CoreState) (t : TransferType) (f : List Byte) : CoreState :=
  (((((((c.withReq { amount := c.opnd.value, type := t, txid := 0 }).withSeqInfo .clear).withElapsed
    .clear).withPre c.bal).withPreValid c.balStat.valid).withBuf (c.buf.offer f)).withExch
    { c.exch with owner := .sequencer, txPos := 0 }).withStatus
    { c.status with
      err := .ok, seq := .registering, phase := .tx, failKind := .ok, cancelPending := false }

/-- The CORE after a request that does not fit: the request latched, the record cleared, and Failed. -/
def CoreState.requestRefused (c : CoreState) (t : TransferType) : CoreState :=
  (((c.withReq { amount := c.opnd.value, type := t, txid := 0 }).withSeqInfo .clear).withElapsed
    .clear).withStatus { c.status with
      err := .encodingError, seq := .failed, failKind := .encodingError, cancelPending := false }

/-- The CORE after a transfer was begun with the next id. -/
def CoreState.transferBegun (c : CoreState) (f : List Byte) : CoreState :=
  (((((c.withTxidLast (c.txidLast + 1)).withReq { c.req with txid := c.txidLast + 1 }).withSeqInfo
    { c.seqInfo with retryUsed := false }).withBuf (c.buf.offer f)).withExch
    { c.exch with owner := .sequencer, txPos := 0 }).withStatus
    { c.status with seq := .transferring, phase := .tx }

/-- The CORE after the first poll was begun. -/
def CoreState.verifyBegun (c : CoreState) (f : List Byte) : CoreState :=
  (((c.withSeqInfo { c.seqInfo with pollsDone := 0 }).withBuf (c.buf.offer f)).withExch
    { c.exch with owner := .sequencer, txPos := 0 }).withStatus
    { c.status with seq := .verifyingBalance, phase := .tx }

section
variable (c : CoreState) (f : List Byte)

@[simp] theorem CoreState.registrationBegun_status (t : TransferType) :
    (c.registrationBegun t f).status = { c.status with
      err := .ok, seq := .registering, phase := .tx, failKind := .ok, cancelPending := false } := by
  simp [CoreState.registrationBegun]

@[simp] theorem CoreState.registrationBegun_txidLast (t : TransferType) :
    (c.registrationBegun t f).txidLast = c.txidLast := by
  simp [CoreState.registrationBegun]

@[simp] theorem CoreState.registrationBegun_buf (t : TransferType) :
    (c.registrationBegun t f).buf = c.buf.offer f := by
  simp [CoreState.registrationBegun]

@[simp] theorem CoreState.registrationBegun_cfg (t : TransferType) :
    (c.registrationBegun t f).cfg = c.cfg := by
  simp [CoreState.registrationBegun]

@[simp] theorem CoreState.registrationBegun_pre (t : TransferType) :
    (c.registrationBegun t f).pre = c.bal := by
  simp [CoreState.registrationBegun]

@[simp] theorem CoreState.registrationBegun_preValid (t : TransferType) :
    (c.registrationBegun t f).preValid = c.balStat.valid := by
  simp [CoreState.registrationBegun]

@[simp] theorem CoreState.registrationBegun_req (t : TransferType) :
    (c.registrationBegun t f).req = { amount := c.opnd.value, type := t, txid := 0 } := by
  simp [CoreState.registrationBegun]

@[simp] theorem CoreState.registrationBegun_seqInfo (t : TransferType) :
    (c.registrationBegun t f).seqInfo = .clear := by
  simp [CoreState.registrationBegun]

@[simp] theorem CoreState.registrationBegun_exch (t : TransferType) :
    (c.registrationBegun t f).exch = { c.exch with owner := .sequencer, txPos := 0 } := by
  simp [CoreState.registrationBegun]

@[simp] theorem CoreState.transferBegun_status :
    (c.transferBegun f).status = { c.status with seq := .transferring, phase := .tx } := by
  simp [CoreState.transferBegun]

@[simp] theorem CoreState.transferBegun_txidLast :
    (c.transferBegun f).txidLast = c.txidLast + 1 := by
  simp [CoreState.transferBegun]

@[simp] theorem CoreState.transferBegun_req :
    (c.transferBegun f).req = { c.req with txid := c.txidLast + 1 } := by
  simp [CoreState.transferBegun]

@[simp] theorem CoreState.transferBegun_seqInfo :
    (c.transferBegun f).seqInfo = { c.seqInfo with retryUsed := false } := by
  simp [CoreState.transferBegun]

@[simp] theorem CoreState.transferBegun_buf : (c.transferBegun f).buf = c.buf.offer f := by
  simp [CoreState.transferBegun]

@[simp] theorem CoreState.transferBegun_exch :
    (c.transferBegun f).exch = { c.exch with owner := .sequencer, txPos := 0 } := by
  simp [CoreState.transferBegun]

@[simp] theorem CoreState.verifyBegun_status :
    (c.verifyBegun f).status = { c.status with seq := .verifyingBalance, phase := .tx } := by
  simp [CoreState.verifyBegun]

@[simp] theorem CoreState.verifyBegun_txidLast : (c.verifyBegun f).txidLast = c.txidLast := by
  simp [CoreState.verifyBegun]

@[simp] theorem CoreState.verifyBegun_seqInfo :
    (c.verifyBegun f).seqInfo = { c.seqInfo with pollsDone := 0 } := by
  simp [CoreState.verifyBegun]

@[simp] theorem CoreState.verifyBegun_buf : (c.verifyBegun f).buf = c.buf.offer f := by
  simp [CoreState.verifyBegun]

@[simp] theorem CoreState.verifyBegun_exch :
    (c.verifyBegun f).exch = { c.exch with owner := .sequencer, txPos := 0 } := by
  simp [CoreState.verifyBegun]

end

theorem buildFrame_ne_nil (a c : Byte) (payload : List Byte) : buildFrame a c payload ≠ [] := nofun

/-- The transfer frame reads the configuration and the key. -/
theorem transferFrame_congr {p : Params} {c d : CoreState} (hcfg : d.cfg = c.cfg)
    (hkey : d.buf.keybuf = c.buf.keybuf) (t : TransferType) (v : Nat) (id : Word32) :
    transferFrame p d t v id = transferFrame p c t v id := by
  simp only [transferFrame, transferPayload, CoreState.key_eq, hcfg, hkey]

theorem CoreState.enterTransferring_eq (p : Params) (c : CoreState) :
    c.enterTransferring p = c.transferBegun
      (transferFrame p c c.req.type c.req.amount.toNat (c.txidLast + 1)) := by
  let d := (c.withTxidLast (c.txidLast + 1)).withReq { c.req with txid := c.txidLast + 1 }
  have hframe : transferFrame p d c.req.type c.req.amount.toNat (c.txidLast + 1) =
      transferFrame p c c.req.type c.req.amount.toNat (c.txidLast + 1) :=
    transferFrame_congr rfl rfl _ _ _
  have hmax := transferFrame_length_le p c c.req.type c.req.amount.isLt (c.txidLast + 1)
  have hne : transferFrame p c c.req.type c.req.amount.toNat (c.txidLast + 1) ≠ [] :=
    buildFrame_ne_nil _ _ _
  have heq : c.enterTransferring p = (((d.loadTx p (transferFrame p d c.req.type c.req.amount.toNat
      (c.txidLast + 1))).withSeqInfo { c.seqInfo with retryUsed := false }).withStatus
      { c.status with seq := .transferring }).startExchange .sequencer := rfl
  rw [heq, hframe]
  generalize transferFrame p c c.req.type c.req.amount.toNat (c.txidLast + 1) = f at hmax hne
  exact (CoreState.startExchange_loaded (p := p) (c := d) hmax hne (by rfl) .sequencer).trans rfl

theorem CoreState.enterVerify_eq (p : Params) (c : CoreState) :
    c.enterVerify p = c.verifyBegun (balanceQueryFrame c) := by
  have hmax : (balanceQueryFrame c).length ≤ 260 := by simp
  have hne : balanceQueryFrame c ≠ [] := buildFrame_ne_nil _ _ _
  unfold CoreState.enterVerify
  generalize balanceQueryFrame c = f at hmax hne
  exact (CoreState.startExchange_loaded (p := p)
    (c := c.withSeqInfo { c.seqInfo with pollsDone := 0 }) hmax hne (by rfl) .sequencer).trans rfl

section
variable {c : CoreState} (hidle : c.status.seq = .idle)
include hidle

theorem aftStartRule_refused (p : Params) (t : TransferType)
    (hbad : 10 ^ 10 ≤ c.opnd.value.toNat ∨ c.txidLast = BitVec.allOnes 32) :
    aftStartRule p t c = c.requestRefused t := by
  rw [← c.idsExhausted_iff p] at hbad
  unfold aftStartRule
  rw [if_neg (not_not.mpr hidle)]
  exact if_pos hbad

theorem aftStartRule_begins (p : Params) (t : TransferType) (hamount : c.opnd.value.toNat < 10 ^ 10)
    (hroom : c.txidLast ≠ BitVec.allOnes 32) :
    aftStartRule p t c = c.registrationBegun t (registrationFrame p c) := by
  have hgood : ¬ (Config.amountLimit ≤ c.opnd.value.toNat ∨ c.idsExhausted p = true) := by
    rw [c.idsExhausted_iff p]
    exact not_or.mpr ⟨Nat.not_le.mpr hamount, hroom⟩
  have hmax : (registrationFrame p c).length ≤ 260 := by rw [registrationFrame_length]; decide
  have hne : registrationFrame p c ≠ [] := buildFrame_ne_nil _ _ _
  have hframe : registrationFrame p (c.latchRequest t).snapshot = registrationFrame p c := by
    simp [registrationFrame]
  unfold aftStartRule
  rw [if_neg (not_not.mpr hidle)]
  refine (if_neg hgood).trans ?_
  dsimp only
  rw [hframe]
  generalize registrationFrame p c = f at hmax hne
  exact (CoreState.startExchange_loaded (p := p) (c := (c.latchRequest t).snapshot) hmax hne (by rfl)
    .sequencer).trans rfl

end

/-- A tick ends a settle wait, or does to the sequencer what an exchange does (R223, R242). -/
theorem CoreState.tick_seq (p : Params) (c : CoreState) :
    SeqMove False c (c.tick p) ∨
    (c.status.seq = .awaitRegistrationSettle ∧ ∃ f, c.tick p = c.ticked.transferBegun f) ∨
    (c.status.seq = .awaitTransferSettle ∧ ∃ f, c.tick p = c.ticked.verifyBegun f) := by
  rcases c.tick_cases p with ⟨-, -, heq⟩ | ⟨-, -, heq⟩ | ⟨-, -, heq⟩ | ⟨-, -, heq⟩ <;> rw [heq]
  · exact .inl (.keeps rfl rfl rfl)
  · refine .inl ((SeqMove.endRead_received p c.ticked ?_).of_same rfl rfl rfl)
    split <;> decide
  · rcases (c.withElapsed (c.elapsed.tick c.status.seq)).tickWait_cases p with
      ⟨hseq, -, heq⟩ | ⟨hseq, -, heq⟩ | ⟨-, -, heq⟩ | heq <;> rw [heq]
    · exact .inr (.inl ⟨hseq, _, CoreState.enterTransferring_eq p c.ticked⟩)
    · exact .inr (.inr ⟨hseq, _, CoreState.enterVerify_eq p c.ticked⟩)
    · exact .inl ((SeqMove.startExchange c.ticked _).of_same rfl rfl rfl)
    · exact .inl (.keeps rfl rfl rfl)
  · exact .inl (.keeps rfl rfl rfl)

/-! All that a reaction does to the sequencer. -/

/-- What a reaction does to SEQ_STATE and to TXID_LAST. -/
inductive SeqChange (c d : CoreState) : Prop
  | keeps (txid : d.txidLast = c.txidLast) (seq : d.status.seq = c.status.seq)
  | moves {err : Prop} (herr : ControlCoherent c → err → c.status.seq.isActive = true)
      (move : SeqMove err c d)
  | starts (txid : d.txidLast = c.txidLast) (idle : c.status.seq = .idle)
      (room : c.txidLast ≠ BitVec.allOnes 32) (seq : d.status.seq = .registering)
  | refuses (txid : d.txidLast = c.txidLast) (idle : c.status.seq = .idle)
      (seq : d.status.seq = .failed)
  | clears (txid : d.txidLast = c.txidLast) (terminal : c.status.seq.isTerminal = true)
      (seq : d.status.seq = .idle)
  | transfers (txid : d.txidLast = c.txidLast + 1) (settled : c.status.seq = .awaitRegistrationSettle)
      (seq : d.status.seq = .transferring) (reqTxid : d.req.txid = d.txidLast)
  | verifies (txid : d.txidLast = c.txidLast) (settled : c.status.seq = .awaitTransferSettle)
      (seq : d.status.seq = .verifyingBalance)

namespace SeqChange

theorem begins {c : CoreState} (hidle : c.status.seq = .idle) (hroom : c.txidLast ≠ BitVec.allOnes 32)
    (t : TransferType) (f : List Byte) : SeqChange c (c.registrationBegun t f) :=
  .starts (by simp) hidle hroom (by simp)

theorem loaded (p : Params) (c : CoreState) (f : List Byte) : SeqChange c (c.loadTx p f).finish :=
  .keeps rfl rfl

theorem aftStart (p : Params) (t : TransferType) (c : CoreState) : SeqChange c (aftStartRule p t c) := by
  by_cases hidle : c.status.seq = .idle
  · by_cases hbad : 10 ^ 10 ≤ c.opnd.value.toNat ∨ c.txidLast = BitVec.allOnes 32
    · rw [aftStartRule_refused hidle p t hbad]
      exact .refuses rfl hidle rfl
    · obtain ⟨hamount, hroom⟩ := not_or.mp hbad
      rw [aftStartRule_begins hidle p t (Nat.not_le.mp hamount) hroom]
      exact begins hidle hroom t _
  · unfold aftStartRule
    rw [if_pos hidle]
    exact .keeps rfl rfl

theorem operation {p : Params} {rule : CoreState → CoreState} (h : HostRule p rule) (c : CoreState) :
    SeqChange c (rule c) := by
  cases h with
  | aftStart t => exact aftStart p t c
  | aftClear =>
    unfold aftClearRule
    split
    · exact .clears rfl ‹_› rfl
    · exact .keeps rfl rfl
  | xchg =>
    refine .moves (err := False) (fun _ => False.elim) ?_
    exact (SeqMove.startExchange _ _).of_same rfl rfl rfl
  | balParse =>
    unfold balParseRule
    split
    · rename_i d hd
      obtain ⟨b, -, -, rfl⟩ := balanceBody_ok hd
      exact .keeps rfl rfl
    · exact .keeps rfl rfl
  | crc16 src => exact .keeps rfl rfl
  | frameBuild command => exact loaded ..
  | buildReg => exact loaded ..
  | buildBalq => exact loaded ..
  | bcdEnc n => unfold bcdEncRule; split <;> exact .keeps rfl rfl
  | bcdDec n => unfold bcdDecRule; split <;> exact .keeps rfl rfl
  | frameParse => unfold frameParseRule; split <;> exact .keeps rfl rfl
  | meterParse => unfold meterParseRule; split <;> exact .keeps rfl rfl
  | buildXfer t =>
    unfold buildXferRule
    split
    · exact .keeps rfl rfl
    · exact loaded ..

theorem aftCancel (c : CoreState) : SeqChange c (aftCancelRule c) := by
  rcases aftCancelRule_cases c with ⟨-, heq⟩ | ⟨-, -, heq⟩ | ⟨hactive, -, heq⟩ <;> rw [heq]
  · exact .keeps rfl rfl
  · exact .keeps rfl rfl
  · exact .moves (fun _ => id) (.fails rfl (.inl hactive) rfl rfl ⟨rfl, nofun⟩)

/-- A channel error fails a sequence: in a coherent CORE the sequencer owns an exchange only while it is
active. -/
theorem chanErr (p : Params) (c : CoreState) : SeqChange c (c.chanErr p) := by
  refine .moves (fun hc ⟨hbusy, howner⟩ => ?_) (SeqMove.chanErr p c)
  have howned : ExchangeOwned c := hbusy.elim (fun h => (hc.writing h).owned) fun h => (hc.reading h).owned
  rcases howned with ⟨-, hstand, -⟩ | ⟨-, -, hseq | hseq | hseq⟩
  · cases howner.symm.trans hstand
  all_goals rw [hseq]; rfl

theorem tick (p : Params) (c : CoreState) : SeqChange c (c.tick p) := by
  rcases c.tick_seq p with hmove | ⟨hseq, f, heq⟩ | ⟨hseq, f, heq⟩
  · exact .moves (fun _ => False.elim) hmove
  · rw [heq]
    exact .transfers (by simp; rfl) hseq (by simp) (by simp)
  · rw [heq]
    exact .verifies (by simp; rfl) hseq (by simp)

theorem reaction {p : Params} {c d : CoreState} (h : Reaction p c d) : SeqChange c d := by
  cases h with
  | wire h => exact .moves (fun _ => False.elim) (SeqMove.run h)
  | raise e => exact .keeps rfl rfl
  | operation hrule _ => exact operation hrule c
  | cancel => exact aftCancel c
  | writeReg n v =>
    obtain ⟨cfg, opnd, plen, rxlen, heq⟩ := c.writeReg_eq n v
    rw [heq]
    exact .keeps rfl rfl
  | writeMem m i b =>
    obtain ⟨pbuf, rxbuf, keybuf, heq⟩ := c.writeMem_eq p m i b
    rw [heq]
    exact .keeps rfl rfl
  | chanErr => exact chanErr p c
  | tick => exact tick p c

end SeqChange

end Sys2Proof.Machine
end

section
/-! SUPPORT. The statements about every step of the sequencer: its edges, its failures, and its transaction
ids (R240, R256, R261, R266). -/

namespace Sys2Proof.Machine

/-! The edges of R240. -/

theorem SeqState.settled_edge (q : SeqState) : q.settled = q ∨ SeqEdge q q.settled = true := by
  cases q <;> decide

theorem SeqState.failed_edge {q : SeqState} (h : q.isActive = true) : SeqEdge q .failed = true := by
  revert h
  cases q <;> decide

theorem SeqState.idle_edge {q : SeqState} (h : q.isTerminal = true) : SeqEdge q .idle = true := by
  revert h
  cases q <;> decide

/-- A coherent CORE has a cancel pending only in a sequence, so what fails is one. -/
theorem SeqMove.edge {err : Prop} {c d : CoreState} (h : SeqMove err c d) (hc : ControlCoherent c)
    (herr : err → c.status.seq.isActive = true) :
    d.status.seq = c.status.seq ∨ SeqEdge c.status.seq d.status.seq = true := by
  obtain ⟨-, -, -, -, -, -, -, hcancel, -⟩ := hc
  cases h with
  | keeps _ seq _ => exact .inl seq
  | settles _ seq _ _ => rw [seq]; exact c.status.seq.settled_edge
  | polled _ verifying seq _ _ =>
    rcases seq with h | h <;> rw [verifying, h] <;> exact .inr rfl
  | fails _ cause seq _ _ =>
    rw [seq]
    exact .inr (SeqState.failed_edge (cause.elim herr fun h => (hcancel h).1))

theorem SeqChange.edge {c d : CoreState} (h : SeqChange c d) (hc : ControlCoherent c) :
    d.status.seq = c.status.seq ∨ SeqEdge c.status.seq d.status.seq = true := by
  cases h with
  | keeps _ seq => exact .inl seq
  | moves herr move => exact move.edge hc (herr hc)
  | starts _ idle _ seq => rw [idle, seq]; exact .inr rfl
  | refuses _ idle seq => rw [idle, seq]; exact .inr rfl
  | clears _ terminal seq => rw [seq]; exact .inr (SeqState.idle_edge terminal)
  | transfers _ settled seq _ => rw [settled, seq]; exact .inr rfl
  | verifies _ settled seq => rw [settled, seq]; exact .inr rfl

theorem step_seqChange {s t : State} (hreset : nextIsReset s = false) (h : step s = .next t) :
    SeqChange s.core t.core := by
  rcases step_reaction h with ⟨hr, -⟩ | hr
  · cases hreset.symm.trans hr
  · exact .reaction hr

/-- Settles O54: each change that a reaction makes to SEQ_STATE is an edge of R240, if the CORE was
coherent. -/
theorem sequencerTakesOnlyTheListedEdges : Obligations.SequencerTakesOnlyTheListedEdges := by
  unfold Obligations.SequencerTakesOnlyTheListedEdges
  intro s t hc hreset h
  exact (step_seqChange hreset h).edge hc

/-! Transaction ids (R250, R256). -/

/-- From c to d no id was taken: TXID_LAST is the same, and neither a state that has still to take an id
nor Transferring was entered, or the id has room. -/
structure IdKept (c d : CoreState) : Prop where
  txid : d.txidLast = c.txidLast
  pending : d.status.seq = .registering ∨ d.status.seq = .awaitRegistrationSettle →
    c.txidLast ≠ BitVec.allOnes 32 ∨
      c.status.seq = .registering ∨ c.status.seq = .awaitRegistrationSettle
  transferring : d.status.seq = .transferring → c.status.seq ≠ .awaitRegistrationSettle

/-- Entering a state that takes no id. -/
theorem IdKept.of_seq {c d : CoreState} {q : SeqState} (htxid : d.txidLast = c.txidLast)
    (hseq : d.status.seq = q)
    (hq : q ≠ .registering ∧ q ≠ .awaitRegistrationSettle ∧ q ≠ .transferring) : IdKept c d := by
  obtain ⟨hreg, hsettle, hxfer⟩ := hq
  subst hseq
  exact ⟨htxid, fun h => (h.elim hreg hsettle).elim, fun h => absurd h hxfer⟩

theorem IdKept.of_same {c d : CoreState} (htxid : d.txidLast = c.txidLast)
    (hseq : d.status.seq = c.status.seq) : IdKept c d :=
  ⟨htxid, fun h => .inr (hseq ▸ h), fun h hc => by cases h.symm.trans (hseq.trans hc)⟩

theorem SeqMove.idKept {err : Prop} {c d : CoreState} (h : SeqMove err c d) : IdKept c d := by
  cases h with
  | keeps txid seq _ => exact .of_same txid seq
  | settles txid seq _ _ =>
    refine ⟨txid, fun h => .inr ?_, fun h => ?_⟩ <;> rw [seq] at h <;> revert h <;>
      cases c.status.seq <;> decide
  | polled txid _ seq _ _ => rcases seq with h | h <;> exact .of_seq txid h (by decide)
  | fails txid _ seq _ _ => exact .of_seq txid seq (by decide)

/-- What TXID_LAST does in a change: the next id is taken on the edge into Transferring, and none
elsewhere. -/
theorem SeqChange.ids {c d : CoreState} (h : SeqChange c d) : IdKept c d ∨
    (c.status.seq = .awaitRegistrationSettle ∧ d.status.seq = .transferring ∧
      d.txidLast = c.txidLast + 1 ∧ d.req.txid = d.txidLast) := by
  cases h with
  | keeps txid seq => exact .inl (.of_same txid seq)
  | moves _ move => exact .inl move.idKept
  | starts txid idle room seq =>
    exact .inl ⟨txid, fun _ => .inl room, fun h => by cases seq.symm.trans h⟩
  | refuses txid _ seq => exact .inl (.of_seq txid seq (by decide))
  | clears txid _ seq => exact .inl (.of_seq txid seq (by decide))
  | transfers txid settled seq reqTxid => exact .inr ⟨settled, seq, txid, reqTxid⟩
  | verifies txid _ seq => exact .inl (.of_seq txid seq (by decide))

/-- Settles O56: with room for the id, the increment on the edge into Transferring does not wrap. -/
theorem transactionIdsAdvanceByOne : Obligations.TransactionIdsAdvanceByOne := by
  unfold Obligations.TransactionIdsAdvanceByOne
  intro s t hroom hreset h
  rcases (step_seqChange hreset h).ids with hkept | ⟨hsettled, hseq, htxid, hreq⟩
  · refine ⟨fun hpending => ?_, fun hedge => ?_, fun _ => hkept.txid⟩
    · rw [hkept.txid]
      exact (hkept.pending hpending).elim id hroom
    · exact absurd hedge.1 (hkept.transferring hedge.2)
  · refine ⟨fun hpending => ?_, fun _ => ⟨?_, hreq⟩, fun hno => absurd ⟨hsettled, hseq⟩ hno⟩
    · rcases hpending with h | h <;> cases hseq.symm.trans h
    · have hne := hroom (.inr hsettled)
      have hmax : s.core.txidLast.toNat ≠ 2 ^ 32 - 1 := fun h => hne (BitVec.eq_of_toNat_eq h)
      rw [htxid]
      bv_omega

/-! Failures (R261, R266). -/

theorem hostOp_raises {s t : State} {rule : CoreState → CoreState} (ha : s.core.active = true)
    (h : hostOp s rule = .next t) : ∃ e, t.core = s.core.raise e := by
  cases (hostOp_busy ha rule).symm.trans h
  exact ⟨_, rfl⟩

/-- While the CORE is active, no host operation but AFT_CANCEL writes more than ERR (R220, R303). -/
theorem exec_raises {i : Instr} (hop : isHostOp i = true) (hne : i ≠ .aftCancel) {s t : State}
    (ha : s.core.active = true) (h : exec i s = .next t) : ∃ e, t.core = s.core.raise e := by
  cases i with
  | nop => cases h; exact ⟨.ok, rfl⟩
  | aftCancel => exact absurd rfl hne
  | bcdEnc n =>
    have h : execBcdEnc n s = .next t := h
    unfold execBcdEnc at h
    split at h
    · exact hostOp_raises ha h
    · cases h; exact ⟨_, rfl⟩
  | bcdDec n =>
    have h : execBcdDec n s = .next t := h
    unfold execBcdDec at h
    split at h
    · exact hostOp_raises ha h
    · cases h; exact ⟨_, rfl⟩
  | crc16 | frameBuild | frameParse | meterParse | buildReg | buildXfer | buildBalq | balParse | xchg
  | aftStart | aftClear => exact hostOp_raises ha h
  | _ => cases hop

/-- What a step does to an active CORE, without CHAN_ERR and AFT_CANCEL. -/
theorem step_unprovoked {s t : State} (ha : s.core.active = true)
    (hnoErr : s.events.head? ≠ some .chanErr)
    (hnoCancel : ∀ w, s.events.head? = some (.issue w) → decodeWord w ≠ .ok .aftCancel)
    (h : step s = .next t) :
    t.core = .reset ∨ (∃ e, t.core = s.core.raise e) ∨
      Relation.ReflTransGen (WireStep s.params) s.core t.core ∨ t.core = s.core.tick s.params := by
  cases hev : s.events with
  | nil => cases (step_idle hev).symm.trans h; exact .inr (.inr (.inl .refl))
  | cons e rest =>
    cases e with
    | issue w =>
      rw [step_issue hev] at h
      cases hd : decodeWord w with
      | ok i =>
        simp only [hd] at h
        have hop := ((hostWordsDecodeExactlyAsEncoded w i).mp hd).1
        have hne : i ≠ .aftCancel := by
          rintro rfl
          exact hnoCancel w (by rw [hev]; rfl) hd
        exact .inr (.inl (exec_raises (s := s.withEvents rest) hop hne ha h))
      | error e => rw [hd] at h; cases h; exact .inr (.inl ⟨_, rfl⟩)
    | write n v =>
      cases (step_write hev).symm.trans h
      exact .inr (.inr (.inl (by rw [State.withCore_core, CoreState.writeReg_active ha])))
    | read n => cases (step_read hev).symm.trans h; exact .inr (.inr (.inl .refl))
    | writeB m i b =>
      cases (step_writeB hev).symm.trans h
      exact .inr (.inr (.inl (by rw [State.withCore_core, CoreState.writeMem_active ha])))
    | readB m i => cases (step_readB hev).symm.trans h; exact .inr (.inr (.inl .refl))
    | txAccept =>
      cases (step_txAccept hev).symm.trans h
      exact .inr (.inr (.inl (acceptBytes_wireSteps 1 (s.withEvents rest))))
    | rxByte b =>
      cases (step_rxByte hev).symm.trans h
      exact .inr (.inr (.inl (.single (.receive b))))
    | chanErr => exact absurd (by rw [hev]; rfl) hnoErr
    | tick => cases (step_tick hev).symm.trans h; exact .inr (.inr (.inr rfl))
    | reset => cases (step_reset hev).symm.trans h; exact .inl rfl
    | txFrame => exact .inr (.inr (.inl (step_txFrame_run hev h)))
    | rxFrame bs => exact .inr (.inr (.inl (step_rxFrame_run hev h)))

/-- Settles O55: bytes and ticks do not fail a sequence without a pending cancel, and host operations
write ERR only. -/
theorem sequencesFailOnlyForACause : Obligations.SequencesFailOnlyForACause := by
  unfold Obligations.SequencesFailOnlyForACause
  intro s t hactive hcancel hnoErr hnoCancel h
  have ha : s.core.active = true := by simp [CoreState.active, hactive]
  have hseq : s.core.status.seq ≠ .failed := fun h => by rw [h] at hactive; cases hactive
  rcases step_unprovoked ha hnoErr hnoCancel h with hcore | ⟨e, hcore⟩ | hrun | hcore
  · rw [hcore]
    exact ⟨nofun, rfl⟩
  · rw [hcore]
    exact ⟨hseq, hcancel⟩
  · exact (SeqMove.run hrun).unfailed hseq hcancel
  · rw [hcore]
    rcases s.core.tick_seq s.params with hmove | ⟨-, f, heq⟩ | ⟨-, f, heq⟩
    · exact hmove.unfailed hseq hcancel
    · rw [heq, CoreState.transferBegun_status]
      exact ⟨nofun, hcancel⟩
    · rw [heq, CoreState.verifyBegun_status]
      exact ⟨nofun, hcancel⟩

end Sys2Proof.Machine
end

section
/-! SUPPORT. The sequencer's host operations and the confirmation test (R250, R259, R262, R265). -/

namespace Sys2Proof.Machine

/-- CONFIRMED is an exact increase over a valid snapshot, in integers (R259). -/
theorem CoreState.confirmed_iff (c : CoreState) : c.confirmed = true ↔ c.preValid = true ∧
    (c.bal.field c.req.type).toNat = (c.pre.field c.req.type).toNat + c.req.amount.toNat := by
  simp only [CoreState.confirmed, Bool.and_eq_true, decide_eq_true_eq, beq_iff_eq, and_assoc]
  refine and_congr_right fun _ => ?_
  omega

/-- Settles O39: CONFIRMED tests the field of the requested type. -/
theorem confirmedMeansTheExactIncrease : Obligations.ConfirmedMeansTheExactIncrease := by
  unfold Obligations.ConfirmedMeansTheExactIncrease
  intro c
  rw [c.confirmed_iff]
  cases c.req.type <;> rfl

/-- Settles O31: each of the three cases of AFT_CANCEL rules out the other two. -/
theorem aftCancelResult : Obligations.AftCancelResult := by
  unfold Obligations.AftCancelResult
  have hexec (s : State) : exec .aftCancel s = .next (s.withCore (aftCancelRule s.core)) := rfl
  refine ⟨fun s hactive hphase => ?_, fun s hactive hphase => ?_, fun s hinactive => ?_⟩ <;>
    rw [hexec] <;>
    rcases aftCancelRule_cases s.core with ⟨hno, heq⟩ | ⟨hyes, htx, heq⟩ | ⟨hyes, hntx, heq⟩
  · cases hactive.symm.trans hno
  · rw [heq]; rfl
  · exact absurd hphase hntx
  · cases hactive.symm.trans hno
  · exact absurd htx hphase
  · rw [heq]; rfl
  · rw [heq]; rfl
  · cases hyes.symm.trans hinactive
  · cases hyes.symm.trans hinactive

/-- Settles O32: an idle CORE runs the rule of AFT_CLEAR. -/
theorem aftClearResult : Obligations.AftClearResult := by
  unfold Obligations.AftClearResult
  have hexec {s : State} (hidle : s.core.active = false) :
      exec .aftClear s = .next (s.withCore (aftClearRule s.core)) := hostOp_idle hidle _
  constructor
  · intro s hidle hterminal
    rw [hexec hidle, aftClearRule, if_pos hterminal]
    rfl
  · intro s hidle hterminal
    rw [hexec hidle, aftClearRule, if_neg (by simp [hterminal])]
    rfl

theorem exec_aftStart_idle {s : State} (hidle : s.core.active = false) (t : TransferType) :
    exec (.aftStart t) s = .next (s.withCore (aftStartRule s.params t s.core)) := hostOp_idle hidle _

/-- Settles O30: AFT_START refuses the request or puts the registration frame on offer. -/
theorem aftStartResult : Obligations.AftStartResult := by
  unfold Obligations.AftStartResult
  constructor
  · intro ty s hidle hseq hbad
    rw [exec_aftStart_idle hidle, aftStartRule_refused hseq s.params ty hbad]
    rfl
  · intro ty s hc hidle hseq hamount hroom
    obtain ⟨-, htxbuf, -, -⟩ := hc
    have hlen := registrationFrame_length s.params s.core
    have hframe := registrationFrame_eq s.params s.core
    rw [exec_aftStart_idle hidle, aftStartRule_begins hseq s.params ty hamount hroom]
    generalize registrationFrame s.params s.core = f at hlen hframe
    obtain ⟨hbytes, hrest⟩ := Buffers.offer_txbuf (f := f) (by rw [hlen]; decide) htxbuf
    rw [hlen] at hbytes hrest
    refine ⟨(s.core.buf.offer f).txbuf, ?_, hbytes.trans hframe, hrest⟩
    rw [CoreState.registrationBegun, Buffers.offer, hlen]
    rfl

end Sys2Proof.Machine
end

section
/-! SUPPORT. The timed waits of the sequencer (R242): how long they last, and what their last tick does. -/

namespace Sys2Proof.Machine

/-! Ticks of a wait. -/

/-- The ticks that TIMER has to exceed for the wait to end: the setting of the state. No tick ends a wait in
a state that does not wait. -/
def CoreState.waitTime (c : CoreState) : Word32 :=
  match c.status.seq with
  | .awaitRegistrationSettle => c.cfg.tRegSettle
  | .awaitTransferSettle => c.cfg.tXferSettle
  | .verifyingBalance => c.cfg.tPoll
  | _ => BitVec.allOnes 32

section
variable {c : CoreState}

theorem CoreState.waitTime_registrationSettle (h : c.status.seq = .awaitRegistrationSettle) :
    c.waitTime = c.cfg.tRegSettle := by rw [CoreState.waitTime, h]

theorem CoreState.waitTime_transferSettle (h : c.status.seq = .awaitTransferSettle) :
    c.waitTime = c.cfg.tXferSettle := by rw [CoreState.waitTime, h]

theorem CoreState.waitTime_poll (h : c.status.seq = .verifyingBalance) :
    c.waitTime = c.cfg.tPoll := by rw [CoreState.waitTime, h]

variable (hphase : c.status.phase = .wait) (hclosed : c.exch.rxOpen = false)
include hphase hclosed

theorem CoreState.tick_wait (p : Params) :
    c.tick p = (c.withElapsed (c.elapsed.tick c.status.seq)).tickWait p := by
  rcases c.tick_cases p with ⟨hopen, -⟩ | ⟨hopen, -⟩ | ⟨-, -, heq⟩ | ⟨-, hno, -⟩
  · cases hopen.symm.trans hclosed
  · cases hopen.symm.trans hclosed
  · exact heq
  · exact absurd hphase hno

/-- The wait goes on until TIMER exceeds its setting. -/
theorem CoreState.tick_waits (p : Params)
    (hwait : min (c.exch.timer.toNat + 1) (2 ^ 32 - 1) ≤ c.waitTime.toNat) : c.tick p = c.ticked := by
  rw [← c.ticked_timer] at hwait
  have hnot {limit : Word32} (hlimit : c.waitTime = limit) (hlt : limit < c.ticked.exch.timer) : False :=
    absurd hwait (Nat.not_le.mpr (hlimit ▸ BitVec.lt_def.mp hlt))
  rw [CoreState.tick_wait hphase hclosed]
  rcases (c.withElapsed (c.elapsed.tick c.status.seq)).tickWait_cases p with
    ⟨hseq, hlt, -⟩ | ⟨hseq, hlt, -⟩ | ⟨hseq, hlt, -⟩ | heq
  · exact (hnot (CoreState.waitTime_registrationSettle hseq) hlt).elim
  · exact (hnot (CoreState.waitTime_transferSettle hseq) hlt).elim
  · exact (hnot (CoreState.waitTime_poll hseq) hlt).elim
  · exact heq

/-- The tick that ends the registration settle (R256). -/
theorem CoreState.tick_registrationSettled (p : Params)
    (hseq : c.status.seq = .awaitRegistrationSettle)
    (hend : c.cfg.tRegSettle.toNat < min (c.exch.timer.toNat + 1) (2 ^ 32 - 1)) :
    c.tick p = c.ticked.transferBegun
      (transferFrame p c c.req.type c.req.amount.toNat (c.txidLast + 1)) := by
  rw [← c.ticked_timer] at hend
  have hframe : transferFrame p c.ticked c.req.type c.req.amount.toNat (c.txidLast + 1) =
      transferFrame p c c.req.type c.req.amount.toNat (c.txidLast + 1) :=
    transferFrame_congr rfl rfl _ _ _
  rw [CoreState.tick_wait hphase hclosed, ← hframe]
  exact (if_pos ⟨hseq, BitVec.lt_def.mpr hend⟩).trans (CoreState.enterTransferring_eq p c.ticked)

/-- The tick that ends the transfer settle (R257). -/
theorem CoreState.tick_transferSettled (p : Params) (hseq : c.status.seq = .awaitTransferSettle)
    (hend : c.cfg.tXferSettle.toNat < min (c.exch.timer.toNat + 1) (2 ^ 32 - 1)) :
    c.tick p = c.ticked.verifyBegun (balanceQueryFrame c) := by
  rw [← c.ticked_timer] at hend
  rw [CoreState.tick_wait hphase hclosed]
  refine (if_neg (by simp [hseq])).trans ((if_pos ⟨hseq, BitVec.lt_def.mpr hend⟩).trans ?_)
  exact CoreState.enterVerify_eq p c.ticked

/-- The tick that ends the poll interval (R242). -/
theorem CoreState.tick_pollDue (p : Params) (hseq : c.status.seq = .verifyingBalance)
    (hend : c.cfg.tPoll.toNat < min (c.exch.timer.toNat + 1) (2 ^ 32 - 1)) :
    c.tick p = c.ticked.startExchange .sequencer := by
  rw [← c.ticked_timer] at hend
  rw [CoreState.tick_wait hphase hclosed]
  refine (if_neg (by simp [hseq])).trans ((if_neg (by simp [hseq])).trans ?_)
  exact if_pos ⟨hseq, BitVec.lt_def.mpr hend⟩

end

/-! The length of a wait. -/

/-- d is c after k more ticks of its wait, which goes on. -/
structure WaitedFor (c : CoreState) (k : Nat) (d : CoreState) : Prop where
  only : ∃ el tm, d = (c.withElapsed el).withExch { c.exch with timer := tm }
  timer : d.exch.timer.toNat = min (c.exch.timer.toNat + k) (2 ^ 32 - 1)

namespace WaitedFor
variable {c d : CoreState} {k : Nat} (h : WaitedFor c k d)
include h

theorem status : d.status = c.status := by
  obtain ⟨el, tm, rfl⟩ := h.only
  rfl

theorem rxOpen : d.exch.rxOpen = c.exch.rxOpen := by
  obtain ⟨el, tm, rfl⟩ := h.only
  rfl

theorem cfg : d.cfg = c.cfg := by
  obtain ⟨el, tm, rfl⟩ := h.only
  rfl

theorem waitTime : d.waitTime = c.waitTime := by
  obtain ⟨el, tm, rfl⟩ := h.only
  rfl

theorem tick (hphase : c.status.phase = .wait) (hclosed : c.exch.rxOpen = false)
    (hk : min (c.exch.timer.toNat + (k + 1)) (2 ^ 32 - 1) ≤ c.waitTime.toNat) (p : Params) :
    WaitedFor c (k + 1) (d.tick p) := by
  have htimer : min (d.exch.timer.toNat + 1) (2 ^ 32 - 1) =
      min (c.exch.timer.toNat + (k + 1)) (2 ^ 32 - 1) := by rw [h.timer]; omega
  rw [CoreState.tick_waits (h.status ▸ hphase) (h.rxOpen.trans hclosed) p
    (by rwa [htimer, h.waitTime])]
  refine ⟨?_, by rw [CoreState.ticked_timer, htimer]⟩
  obtain ⟨el, tm, rfl⟩ := h.only
  exact ⟨_, _, rfl⟩

end WaitedFor

/-- A wait lasts as long as TIMER, which saturates, does not exceed its setting. -/
theorem CoreState.ticks_wait {c : CoreState} (hphase : c.status.phase = .wait)
    (hclosed : c.exch.rxOpen = false) (p : Params) {k : Nat}
    (hk : min (c.exch.timer.toNat + k) (2 ^ 32 - 1) ≤ c.waitTime.toNat) :
    WaitedFor c k ((CoreState.tick p)^[k] c) := by
  induction k with
  | zero => exact ⟨⟨c.elapsed, c.exch.timer, rfl⟩, by simp; omega⟩
  | succ k ih =>
    rw [Function.iterate_succ_apply']
    exact (ih (le_trans (by omega) hk)).tick hphase hclosed hk p

section
variable {c : CoreState} (hphase : c.status.phase = .wait) (hclosed : c.exch.rxOpen = false)
  (htimer : c.exch.timer = 0)
include hphase hclosed htimer

/-- A wait from TIMER 0 goes on for as many ticks as its setting. -/
theorem CoreState.ticks_wait_from_zero (p : Params) {k : Nat} (hk : k ≤ c.waitTime.toNat) :
    WaitedFor c k ((CoreState.tick p)^[k] c) ∧ ((CoreState.tick p)^[k] c).exch.timer.toNat = k := by
  have hmax := c.waitTime.isLt
  have hzero : c.exch.timer.toNat = 0 := by rw [htimer]; rfl
  have hwaited := CoreState.ticks_wait hphase hclosed p (k := k) (by omega)
  exact ⟨hwaited, by rw [hwaited.timer]; omega⟩

/-- After as many ticks as its setting, one tick is left of the wait. -/
theorem CoreState.ticks_to_last (p : Params) {limit : Word32} (hlimit : c.waitTime = limit)
    (hmax : limit.toNat + 1 < 2 ^ 32) :
    ∃ d, WaitedFor c limit.toNat d ∧ limit.toNat < min (d.exch.timer.toNat + 1) (2 ^ 32 - 1) ∧
      (CoreState.tick p)^[limit.toNat + 1] c = d.tick p := by
  obtain ⟨hwaited, hlast⟩ := CoreState.ticks_wait_from_zero hphase hclosed htimer p
    (k := limit.toNat) (by rw [hlimit])
  exact ⟨_, hwaited, by omega, Function.iterate_succ_apply' _ _ _⟩

end

/-- The ticks of a wait from TIMER 0, in a run: after no more of them than its setting the wait goes on, and
the next is its last. -/
theorem runSteps_wait {s : State} (hphase : s.core.status.phase = .wait)
    (hclosed : s.core.exch.rxOpen = false) (htimer : s.core.exch.timer = 0) {limit : Word32}
    (hlimit : s.core.waitTime = limit) (hmax : limit.toNat + 1 < 2 ^ 32) :
    (∀ k ≤ limit.toNat, ∃ t, runSteps k (s.withEvents (List.replicate k Event.tick)) = .next t ∧
      t.core.status = s.core.status ∧ t.core.exch.timer.toNat = k) ∧
    ∃ t d, runSteps (limit.toNat + 1)
        (s.withEvents (List.replicate (limit.toNat + 1) Event.tick)) = .next t ∧
      WaitedFor s.core limit.toNat d ∧
      limit.toNat < min (d.exch.timer.toNat + 1) (2 ^ 32 - 1) ∧ t.core = d.tick s.params := by
  constructor
  · intro k hk
    obtain ⟨t, hrun, hcore⟩ := runSteps_ticks k s
    obtain ⟨hwaited, hlast⟩ :=
      CoreState.ticks_wait_from_zero hphase hclosed htimer s.params (hlimit ▸ hk)
    rw [← hcore] at hwaited hlast
    exact ⟨t, hrun, hwaited.status, hlast⟩
  · obtain ⟨t, hrun, hcore⟩ := runSteps_ticks (limit.toNat + 1) s
    obtain ⟨d, hwaited, hend, hlast⟩ :=
      CoreState.ticks_to_last hphase hclosed htimer s.params hlimit hmax
    exact ⟨t, d, hrun, hwaited, hend, hcore.trans hlast⟩

/-! The last tick. -/

section
variable {c d : CoreState} {k : Nat} (h : WaitedFor c k d) (hphase : c.status.phase = .wait)
  (hclosed : c.exch.rxOpen = false)
include h hphase hclosed

/-- The tick that ends the registration settle begins the transfer (R256). -/
theorem WaitedFor.beginsTransfer (p : Params) (hseq : c.status.seq = .awaitRegistrationSettle)
    (hend : c.cfg.tRegSettle.toNat < min (d.exch.timer.toNat + 1) (2 ^ 32 - 1)) :
    ∃ el tm, d.tick p = ((c.withElapsed el).withExch { c.exch with timer := tm }).transferBegun
      (transferFrame p c c.req.type c.req.amount.toNat (c.txidLast + 1)) := by
  have htick := CoreState.tick_registrationSettled (c := d) (h.status ▸ hphase)
    (h.rxOpen.trans hclosed) p (h.status ▸ hseq) (h.cfg ▸ hend)
  obtain ⟨el, tm, rfl⟩ := h.only
  have hframe : transferFrame p ((c.withElapsed el).withExch { c.exch with timer := tm }) c.req.type
      c.req.amount.toNat (c.txidLast + 1) =
        transferFrame p c c.req.type c.req.amount.toNat (c.txidLast + 1) :=
    transferFrame_congr rfl rfl _ _ _
  exact ⟨_, _, htick.trans (congrArg _ hframe)⟩

/-- The tick that ends the transfer settle begins the first poll (R257). -/
theorem WaitedFor.beginsVerify (p : Params) (hseq : c.status.seq = .awaitTransferSettle)
    (hend : c.cfg.tXferSettle.toNat < min (d.exch.timer.toNat + 1) (2 ^ 32 - 1)) :
    ∃ el tm, d.tick p = ((c.withElapsed el).withExch { c.exch with timer := tm }).verifyBegun
      (balanceQueryFrame c) := by
  have htick := CoreState.tick_transferSettled (c := d) (h.status ▸ hphase)
    (h.rxOpen.trans hclosed) p (h.status ▸ hseq) (h.cfg ▸ hend)
  obtain ⟨el, tm, rfl⟩ := h.only
  exact ⟨el.tick c.status.seq, satInc tm, htick⟩

/-- The tick that ends the poll interval offers the same frame again (R242). -/
theorem WaitedFor.offersAgain (p : Params) (hseq : c.status.seq = .verifyingBalance)
    (hend : c.cfg.tPoll.toNat < min (d.exch.timer.toNat + 1) (2 ^ 32 - 1)) (htx : c.buf.txlen ≠ 0) :
    ∃ el tm, d.tick p = (((c.withElapsed el).withExch
      { c.exch with timer := tm, owner := .sequencer, txPos := 0 }).withBuf
      { c.buf with rxlen := 0 }).withStatus { c.status with phase := .tx } := by
  have htick := CoreState.tick_pollDue (c := d) (h.status ▸ hphase)
    (h.rxOpen.trans hclosed) p (h.status ▸ hseq) (h.cfg ▸ hend)
  obtain ⟨el, tm, rfl⟩ := h.only
  rw [CoreState.startExchange_of_txlen (by exact htx)] at htick
  exact ⟨el.tick c.status.seq, satInc tm, htick⟩

end

/-- A frame of at most 260 bytes that is on offer, in canonical memories. -/
theorem CoreState.offer_txFrame {c d : CoreState} {f : List Byte} (hmax : f.length ≤ 260)
    (hbuf : d.buf = c.buf.offer f) (hc : MemoriesCanonical c) :
    d.txFrame = f ∧ ∀ a, d.buf.txlen.toNat ≤ a →
      Memory.read d.buf.txbuf a = Memory.read c.buf.txbuf a := by
  obtain ⟨-, htxbuf, -, -⟩ := hc
  obtain ⟨hbytes, hrest⟩ := Buffers.offer_txbuf hmax htxbuf
  rw [CoreState.txFrame, hbuf, Buffers.offer_txlen hmax]
  exact ⟨hbytes, hrest⟩

/-- Settles O36: `runSteps_wait` gives the ticks before the last, and the lemmas about the last tick its
end. -/
theorem settleWaitsLastOneTickMore : Obligations.SettleWaitsLastOneTickMore := by
  unfold Obligations.SettleWaitsLastOneTickMore
  refine ⟨?_, ?_, ?_, ?_⟩
  · intro s hphase hclosed htimer hseq hmax
    obtain ⟨hbefore, t, d, hrun, hwaited, hend, hcore⟩ := runSteps_wait hphase hclosed htimer
      (CoreState.waitTime_registrationSettle hseq) hmax
    obtain ⟨el, tm, hlast⟩ := hwaited.beginsTransfer hphase hclosed s.params hseq hend
    have hframe := transferFrame_eq s.params s.core s.core.req.type s.core.req.amount.toNat
      (s.core.txidLast + 1)
    have hmax := transferFrame_length_le s.params s.core s.core.req.type s.core.req.amount.isLt
      (s.core.txidLast + 1)
    rw [hlast] at hcore
    generalize transferFrame s.params s.core s.core.req.type s.core.req.amount.toNat
      (s.core.txidLast + 1) = f at hframe hmax hcore
    refine ⟨fun k hk => ?_, t, hrun, ?_⟩
    · obtain ⟨t, hrun, hstatus, hticks⟩ := hbefore k hk
      exact ⟨t, hrun, by rw [hstatus, hseq], hticks⟩
    · have hbuf : t.core.buf = s.core.buf.offer f := by simp [hcore]
      refine ⟨by simp [hcore], by simp [hcore], by simp [hcore], by simp [hcore], by simp [hcore],
        by simp [hcore], by simp [hcore], by simp [hcore], fun hc _ => ?_⟩
      rw [← hframe]
      exact CoreState.offer_txFrame hmax hbuf hc
  · intro s hphase hclosed htimer hseq hmax
    obtain ⟨hbefore, t, d, hrun, hwaited, hend, hcore⟩ := runSteps_wait hphase hclosed htimer
      (CoreState.waitTime_transferSettle hseq) hmax
    obtain ⟨el, tm, hlast⟩ := hwaited.beginsVerify hphase hclosed s.params hseq hend
    have hframe : balanceQueryFrame s.core = wireBytes (.wireBalanceQuery s.core.cfg.addr) := rfl
    have hlen := balanceQueryFrame_length s.core
    rw [hlast] at hcore
    generalize balanceQueryFrame s.core = f at hframe hlen hcore
    refine ⟨fun k hk => ?_, t, hrun, ?_⟩
    · obtain ⟨t, hrun, hstatus, hticks⟩ := hbefore k hk
      exact ⟨t, hrun, by rw [hstatus, hseq], hticks⟩
    · have hbuf : t.core.buf = s.core.buf.offer f := by simp [hcore]
      have htxlen : t.core.buf.txlen = 5 := by rw [hbuf, Buffers.offer, hlen]; rfl
      refine ⟨by simp [hcore], by simp [hcore], by simp [hcore], htxlen, by simp [hcore],
        by simp [hcore], fun hc => ?_⟩
      obtain ⟨hbytes, hrest⟩ := CoreState.offer_txFrame (by omega) hbuf hc
      rw [htxlen] at hrest
      exact ⟨hbytes.trans hframe, hrest⟩
  · intro s hphase hclosed htimer hseq htx hmax
    obtain ⟨hbefore, t, d, hrun, hwaited, hend, hcore⟩ := runSteps_wait hphase hclosed htimer
      (CoreState.waitTime_poll hseq) hmax
    obtain ⟨el, tm, hlast⟩ := hwaited.offersAgain hphase hclosed s.params hseq hend htx
    refine ⟨hbefore, t, hrun, ?_⟩
    rw [hcore, hlast]
    simp
  · intro s k hphase hclosed hnever
    have hlimit : s.core.waitTime = BitVec.allOnes 32 := by
      rcases hnever with ⟨hseq, h⟩ | ⟨hseq, h⟩ | ⟨hseq, h⟩
      · exact (CoreState.waitTime_registrationSettle hseq).trans h
      · exact (CoreState.waitTime_transferSettle hseq).trans h
      · exact (CoreState.waitTime_poll hseq).trans h
    obtain ⟨t, hrun, hcore⟩ := runSteps_ticks k s
    have hwaited := CoreState.ticks_wait hphase hclosed s.params (k := k)
      (by rw [hlimit, BitVec.toNat_allOnes]; exact Nat.min_le_right _ _)
    exact ⟨t, hrun, hcore ▸ hwaited.status⟩

end Sys2Proof.Machine
end

section
/-! SUPPORT. A whole sequence (R266 item 4), put together from the runs of its parts: AFT_START, a step whose
frame is replied to, a settle wait, and a poll that confirms. -/

namespace Sys2Proof.Machine

/-! Runs that do not depend on what is scheduled after them. -/

/-- The events es, scheduled next, take the CORE from c to d. -/
def Takes (p : Params) (c : CoreState) (es : List Event) (d : CoreState) : Prop :=
  ∀ (s : State) (rest : List Event), s.params = p → s.core = c → s.events = es ++ rest →
    ∃ t, runSteps es.length s = .next t ∧ t.params = p ∧ t.core = d ∧ t.events = rest

theorem runSteps_add {k : Nat} {s t : State} (h : runSteps k s = .next t) (n : Nat) :
    runSteps (k + n) s = runSteps n t := by
  induction k generalizing s with
  | zero => cases h; rw [Nat.zero_add]
  | succ k ih =>
    cases hstep : step s with
    | next u =>
      rw [runSteps_succ hstep] at h
      rw [Nat.add_right_comm, runSteps_succ hstep, ih h]
    | fault r => cases r
    | refused r =>
      have hcore : Sys2Proof.core.step s = .refused r := hstep
      simp only [runSteps, Host.Core.run, hcore] at h
      cases h

namespace Takes
variable {p : Params} {c d e : CoreState} {es fs : List Event}

theorem append (h₁ : Takes p c es d) (h₂ : Takes p d fs e) : Takes p c (es ++ fs) e := by
  intro s rest hparams hcore hev
  obtain ⟨t, hrun, hparams, hcore, hev⟩ :=
    h₁ s (fs ++ rest) hparams hcore (by rw [hev, List.append_assoc])
  obtain ⟨u, hrun', hu⟩ := h₂ t rest hparams hcore hev
  exact ⟨u, by rw [List.length_append, runSteps_add hrun, hrun'], hu⟩

theorem one {ev : Event} (h : ∀ (s : State) (rest : List Event), s.params = p → s.core = c →
    s.events = ev :: rest → ∃ t, step s = .next t ∧ t.params = p ∧ t.core = d ∧ t.events = rest) :
    Takes p c [ev] d := by
  intro s rest hparams hcore hev
  obtain ⟨t, hstep, ht⟩ := h s rest hparams hcore hev
  exact ⟨t, runSteps_succ hstep 0, ht⟩

theorem ticks (p : Params) (c : CoreState) (k : Nat) :
    Takes p c (List.replicate k Event.tick) ((CoreState.tick p)^[k] c) := by
  intro s rest hparams hcore hev
  have hrun := runSteps_replicate (f := fun s => s.withCore (s.core.tick s.params))
    (fun _ _ => step_tick) (fun _ _ => rfl) k s rest
  rw [← hev, State.withEvents_self] at hrun
  have hkeeps (k : Nat) (s : State) : ((fun s : State => s.withCore (s.core.tick s.params))^[k] s).params =
      s.params ∧ ((fun s : State => s.withCore (s.core.tick s.params))^[k] s).events = s.events := by
    induction k generalizing s with
    | zero => exact ⟨rfl, rfl⟩
    | succ k ih => exact ih _
  obtain ⟨hp, he⟩ := hkeeps k (s.withEvents rest)
  rw [List.length_replicate]
  refine ⟨_, hrun, hp.trans hparams, ?_, he⟩
  rw [iterate_tick_core, State.withEvents_params, State.withEvents_core, hparams, hcore]

theorem rxFrame (p : Params) (c : CoreState) (bs : List Byte) :
    Takes p c [.rxFrame bs] (bs.foldl (CoreState.rxByte p) c) := by
  refine one fun s rest hparams hcore hev => ⟨_, step_rxFrame_delivers hev, ?_⟩
  obtain ⟨hp, he, -, -⟩ := deliverBytes_keeps (s.withEvents rest) bs
  refine ⟨hp.trans hparams, ?_, he⟩
  rw [deliverBytes_core, State.withEvents_params, State.withEvents_core, hparams, hcore]

theorem aftStart (p : Params) (t : TransferType) (hidle : c.active = false) :
    Takes p c [.issue (opWord 0x20 t.arg)] (aftStartRule p t c) := by
  refine one fun s rest hparams hcore hev => ?_
  have hd : decodeWord (opWord 0x20 t.arg) = .ok (.aftStart t) :=
    (hostWordsDecodeExactlyAsEncoded _ _).mpr ⟨rfl, rfl, rfl⟩
  subst hparams hcore
  rw [step_issue hev, hd]
  exact ⟨_, exec_aftStart_idle (s := s.withEvents rest) hidle t, rfl, rfl, rfl⟩

end Takes

/-! What a sequence is doing between its parts. -/

/-- A sequence in the state q offers a frame, no byte of it taken yet, and no cancel is pending. -/
structure Offers (c : CoreState) (q : SeqState) : Prop where
  seq : c.status.seq = q
  phase : c.status.phase = .tx
  cancel : c.status.cancelPending = false
  owner : c.exch.owner = .sequencer
  txPos : c.exch.txPos = 0
  txlen : c.buf.txlen ≠ 0
  rxlen : c.buf.rxlen = 0
  wf : Memory.wf Config.frameMax c.buf.rxbuf = true

/-- A sequence in the state q begins its wait, and no cancel is pending. -/
structure Settles (c : CoreState) (q : SeqState) : Prop where
  seq : c.status.seq = q
  phase : c.status.phase = .wait
  cancel : c.status.cancelPending = false
  rxOpen : c.exch.rxOpen = false
  timer : c.exch.timer = 0
  wf : Memory.wf Config.frameMax c.buf.rxbuf = true

/-- d keeps of c what a sequence keeps up to its end: what an active CORE locks, and FAIL_KIND; and no
standalone exchange has started. -/
structure Carries (c d : CoreState) : Prop extends LockFrame c d where
  failKind : d.status.failKind = c.status.failKind
  xchgAct : d.exch.xchgAct = c.exch.xchgAct

theorem Carries.trans {c d e : CoreState} (h₁ : Carries c d) (h₂ : Carries d e) : Carries c e :=
  ⟨h₁.toLockFrame.trans h₂.toLockFrame, h₂.failKind.trans h₁.failKind, h₂.xchgAct.trans h₁.xchgAct⟩

/-! A frame that is replied to. -/

/-- The frame on offer is sent, and the read attempt is open (R221). -/
def CoreState.opened (c : CoreState) : CoreState :=
  (c.withStatus { c.status with phase := .rx }).withExch
    { c.exch with txPos := c.buf.txlen, rxOpen := true, timer := 0 }

section
variable {c : CoreState} {q : SeqState} (h : Offers c q)
include h

theorem Offers.sent (p : Params) : Takes p c [.txFrame] c.opened := by
  refine .one fun s rest hparams hcore hev => ⟨_, step_txFrame_accepts hev, ?_⟩
  obtain ⟨hp, he, -⟩ := acceptBytes_keeps s.core.bytesLeft (s.withEvents rest)
  refine ⟨hp.trans hparams, ?_, he⟩
  obtain ⟨n, hn⟩ : ∃ n, c.buf.txlen.toNat = n + 1 :=
    ⟨c.buf.txlen.toNat - 1, by have := h.txlen; bv_omega⟩
  have hleft : s.core.bytesLeft = n + 1 := by
    simp [CoreState.bytesLeft, hcore, h.txPos, hn]
  subst hcore
  rw [hleft, acceptBytes_to_end (s := s.withEvents rest) h.phase (by simp [h.txPos, hn])]
  exact if_neg (by simp [h.cancel])

/-- A frame that comes back ends the exchange (R222, R227). -/
theorem Offers.replied (p : Params) {bs : List Byte} (hframe : IsFrame bs) :
    ∃ d, Received c.opened bs d ∧
      Takes p c [.txFrame, .rxFrame bs] (d.released.seqExchangeEnd p .bytes) := by
  obtain ⟨d, hreceived, heq⟩ :=
    CoreState.foldl_rxByte_frame (c := c.opened) rfl h.wf h.rxlen p hframe
  refine ⟨d, hreceived, (h.sent p).append (fs := [.rxFrame bs]) ?_⟩
  rw [← CoreState.endRead_sequencer (by rw [hreceived.exch]; exact h.owner), ← heq]
  exact .rxFrame p c.opened bs

/-- In Registering and Transferring it is the reply of the step, and the settle wait begins (R254). -/
theorem Offers.acknowledged (p : Params) {bs : List Byte} (hframe : IsFrame bs)
    (hq : q ≠ .verifyingBalance) :
    ∃ d, Takes p c [.txFrame, .rxFrame bs] d ∧ Carries c d ∧ Settles d q.settled ∧
      d.txidLast = c.txidLast ∧ d.seqInfo = c.noteReply.seqInfo := by
  obtain ⟨d, hreceived, htakes⟩ := h.replied p hframe
  have hwf := hreceived.wf
  have hrx : d.released.rxBytes = bs := hreceived.rxBytes
  obtain ⟨rxbuf, rxlen, rfl⟩ := hreceived.only
  have hne : bs ≠ [] := by rintro rfl; exact absurd hframe.1 (by decide)
  have hend := CoreState.seqExchangeEnd_step p hrx (by exact h.seq ▸ hq)
  rw [if_neg hne, if_pos hframe] at hend
  rw [hend] at htakes
  refine ⟨_, htakes, ⟨⟨rfl, rfl, rfl, rfl, rfl, rfl, rfl⟩, rfl, rfl⟩, ⟨?_, rfl, h.cancel, rfl, rfl, hwf⟩,
    rfl, rfl⟩
  exact congrArg SeqState.settled h.seq

end

/-! The frames that a sequence puts on offer. -/

section
variable {f : List Byte} (hmax : f.length ≤ 260) (hne : f ≠ []) {c : CoreState}
include hmax hne

theorem Buffers.offer_txlen_ne (b : Buffers) : (b.offer f).txlen ≠ 0 := fun h => by
  have hlen := b.offer_txlen hmax
  rw [h] at hlen
  exact hne (List.length_eq_zero_iff.mp hlen.symm)

variable (hwf : Memory.wf Config.frameMax c.buf.rxbuf = true)
include hwf

theorem Offers.of_offer {d : CoreState} {q : SeqState} (hseq : d.status.seq = q)
    (hphase : d.status.phase = .tx) (hcancel : d.status.cancelPending = false)
    (hbuf : d.buf = c.buf.offer f)
    (hexch : d.exch = { c.exch with owner := .sequencer, txPos := 0 }) : Offers d q :=
  ⟨hseq, hphase, hcancel, by rw [hexch], by rw [hexch],
    by rw [hbuf]; exact Buffers.offer_txlen_ne hmax hne _, by rw [hbuf]; rfl, by rw [hbuf]; exact hwf⟩

theorem Offers.registrationBegun (t : TransferType) :
    Offers (c.registrationBegun t f) .registering :=
  .of_offer hmax hne hwf (by simp) (by simp) (by simp) (by simp) (by simp)

theorem Offers.transferBegun (hcancel : c.status.cancelPending = false) :
    Offers (c.transferBegun f) .transferring :=
  .of_offer hmax hne hwf (by simp) (by simp) (by simpa) (by simp) (by simp)

theorem Offers.verifyBegun (hcancel : c.status.cancelPending = false) :
    Offers (c.verifyBegun f) .verifyingBalance :=
  .of_offer hmax hne hwf (by simp) (by simp) (by simpa) (by simp) (by simp)

end

section
variable (c : CoreState) (f : List Byte)

theorem Buffers.offer_lock (b : Buffers) : b.offer f = { b with
    txbuf := (b.offer f).txbuf, txlen := (b.offer f).txlen, rxbuf := (b.offer f).rxbuf,
    rxlen := (b.offer f).rxlen } := rfl

theorem Carries.transferBegun : Carries c (c.transferBegun f) := by
  refine ⟨⟨?_, ?_, ?_, ?_, ?_, ?_, ?_⟩, ?_, ?_⟩
  case refine_7 => rw [CoreState.transferBegun_buf]; exact Buffers.offer_lock f c.buf
  all_goals simp [CoreState.transferBegun]

theorem Carries.verifyBegun : Carries c (c.verifyBegun f) := by
  refine ⟨⟨?_, ?_, ?_, ?_, ?_, ?_, ?_⟩, ?_, ?_⟩
  case refine_7 => rw [CoreState.verifyBegun_buf]; exact Buffers.offer_lock f c.buf
  all_goals simp [CoreState.verifyBegun]

theorem Carries.waited (el : Elapsed) (tm : Word32) :
    Carries c ((c.withElapsed el).withExch { c.exch with timer := tm }) :=
  ⟨⟨rfl, rfl, rfl, rfl, rfl, rfl, rfl⟩, rfl, rfl⟩

end

/-! The ends of the settle waits. -/

/-- The registration settle leads on to the transfer with the next id (R256). -/
theorem Settles.transfers {c : CoreState} (h : Settles c .awaitRegistrationSettle) (p : Params)
    (hmax : c.cfg.tRegSettle.toNat + 1 < 2 ^ 32) :
    ∃ d, Takes p c (List.replicate (c.cfg.tRegSettle.toNat + 1) .tick) d ∧ Carries c d ∧
      Offers d .transferring ∧ d.txidLast = c.txidLast + 1 ∧
      d.seqInfo = { c.seqInfo with retryUsed := false } := by
  obtain ⟨d, hwaited, hend, hlast⟩ := CoreState.ticks_to_last h.phase h.rxOpen h.timer p
    (CoreState.waitTime_registrationSettle h.seq) hmax
  obtain ⟨el, tm, hbegun⟩ := hwaited.beginsTransfer h.phase h.rxOpen p h.seq hend
  have htakes := Takes.ticks p c (c.cfg.tRegSettle.toNat + 1)
  rw [hlast, hbegun] at htakes
  have hne : transferFrame p c c.req.type c.req.amount.toNat (c.txidLast + 1) ≠ [] :=
    buildFrame_ne_nil _ _ _
  have hlen := transferFrame_length_le p c c.req.type c.req.amount.isLt (c.txidLast + 1)
  generalize transferFrame p c c.req.type c.req.amount.toNat (c.txidLast + 1) = f at htakes hne hlen
  exact ⟨_, htakes, (Carries.waited c el tm).trans (.transferBegun _ f),
    .transferBegun hlen hne h.wf h.cancel, by simp, by simp⟩

/-- The transfer settle leads on to the first poll (R257). -/
theorem Settles.verifies {c : CoreState} (h : Settles c .awaitTransferSettle) (p : Params)
    (hmax : c.cfg.tXferSettle.toNat + 1 < 2 ^ 32) :
    ∃ d, Takes p c (List.replicate (c.cfg.tXferSettle.toNat + 1) .tick) d ∧ Carries c d ∧
      Offers d .verifyingBalance ∧ d.txidLast = c.txidLast ∧
      d.seqInfo = { c.seqInfo with pollsDone := 0 } := by
  obtain ⟨d, hwaited, hend, hlast⟩ := CoreState.ticks_to_last h.phase h.rxOpen h.timer p
    (CoreState.waitTime_transferSettle h.seq) hmax
  obtain ⟨el, tm, hbegun⟩ := hwaited.beginsVerify h.phase h.rxOpen p h.seq hend
  have htakes := Takes.ticks p c (c.cfg.tXferSettle.toNat + 1)
  rw [hlast, hbegun] at htakes
  have hne : balanceQueryFrame c ≠ [] := buildFrame_ne_nil _ _ _
  have hlen : (balanceQueryFrame c).length ≤ 260 := by simp
  generalize balanceQueryFrame c = f at htakes hne hlen
  exact ⟨_, htakes, (Carries.waited c el tm).trans (.verifyBegun _ f),
    .verifyBegun hlen hne h.wf h.cancel, by simp, by simp⟩

/-! A poll that confirms. -/

/-- A response that confirms the transfer ends the sequence in Done (R258, R260). -/
theorem Offers.confirmed {c : CoreState} (h : Offers c .verifyingBalance) (p : Params) {bs : List Byte}
    (hframe : IsFrame bs) {b : Balance} (hshown : shownBalance c.cfg.addr bs = some b)
    (hconf : (c.withBal b).confirmed = true) :
    ∃ d, Takes p c [.txFrame, .rxFrame bs] d ∧
      d.status = { c.status with seq := .done, phase := .none, cancelPending := false, err := .ok } ∧
      d.exch.xchgAct = c.exch.xchgAct ∧ d.bal = b ∧ d.pre = c.pre ∧ d.txidLast = c.txidLast ∧
      d.seqInfo = { c.seqInfo with pollsDone := c.seqInfo.pollsDone + 1 } ∧ d.rxBytes = bs := by
  obtain ⟨d, hreceived, htakes⟩ := h.replied p hframe
  have hrx : d.released.rxBytes = bs := hreceived.rxBytes
  obtain ⟨rxbuf, rxlen, rfl⟩ := hreceived.only
  have hne : bs ≠ [] := by rintro rfl; exact absurd hframe.1 (by decide)
  rw [CoreState.seqExchangeEnd_verifying p (by decide) (by exact h.seq)] at htakes
  rcases CoreState.pollEnd_shown p
    (c.opened.withBuf { c.opened.buf with rxbuf := rxbuf, rxlen := rxlen }).released with
    ⟨b', hb', heq⟩ | ⟨hnone, -⟩
  case inr => rw [hrx] at hnone; cases hshown.symm.trans hnone
  rw [hrx] at hb'
  cases hshown.symm.trans hb'
  rw [hrx, if_neg hne] at heq
  rw [heq, CoreState.pollDecide, if_pos (by
    rw [Bool.true_and, ← hconf]; exact CoreState.confirmed_congr rfl rfl rfl rfl)] at htakes
  exact ⟨_, htakes, rfl, rfl, rfl, rfl, rfl, rfl, hrx⟩

/-! The whole sequence. -/

/-- With both steps acknowledged, Registering leads to the first poll (R254, R256, R257). -/
theorem Offers.reachesPolls {c : CoreState} (h : Offers c .registering) (p : Params)
    {ack₁ ack₂ : List Byte} (hack₁ : IsFrame ack₁) (hack₂ : IsFrame ack₂)
    (hreg : c.cfg.tRegSettle.toNat + 1 < 2 ^ 32) (hxfer : c.cfg.tXferSettle.toNat + 1 < 2 ^ 32) :
    ∃ d, Takes p c ([Event.txFrame, .rxFrame ack₁]
        ++ List.replicate (c.cfg.tRegSettle.toNat + 1) Event.tick
        ++ [Event.txFrame, .rxFrame ack₂]
        ++ List.replicate (c.cfg.tXferSettle.toNat + 1) Event.tick) d ∧
      Carries c d ∧ Offers d .verifyingBalance ∧ d.txidLast = c.txidLast + 1 ∧
      d.seqInfo = { c.seqInfo with
        retryUsed := false, regReplied := true, xferReplied := true, pollsDone := 0 } := by
  obtain ⟨c₁, htakes₁, hcarries₁, hsettles₁, hlast₁, hinfo₁⟩ := h.acknowledged p hack₁ (by decide)
  rw [(CoreState.note_registering h.seq).1] at hinfo₁
  rw [← hcarries₁.cfg] at hreg
  obtain ⟨c₂, htakes₂, hcarries₂, hoffers₂, hlast₂, hinfo₂⟩ := hsettles₁.transfers p hreg
  obtain ⟨c₃, htakes₃, hcarries₃, hsettles₃, hlast₃, hinfo₃⟩ :=
    hoffers₂.acknowledged p hack₂ (by decide)
  rw [(CoreState.note_transferring hoffers₂.seq).1] at hinfo₃
  have hcarries := (hcarries₁.trans hcarries₂).trans hcarries₃
  rw [← hcarries.cfg] at hxfer
  obtain ⟨c₄, htakes₄, hcarries₄, hoffers₄, hlast₄, hinfo₄⟩ := hsettles₃.verifies p hxfer
  rw [hcarries₁.cfg] at htakes₂
  rw [hcarries.cfg] at htakes₄
  refine ⟨c₄, ((htakes₁.append htakes₂).append htakes₃).append htakes₄, hcarries.trans hcarries₄,
    hoffers₄, ?_, ?_⟩
  · rw [hlast₄, hlast₃, hlast₂, hlast₁]
  · rw [hinfo₄, hinfo₃, hinfo₂, hinfo₁]

/-- Settles O60: AFT_START begins the sequence, which reaches its first poll, which confirms. -/
theorem acknowledgedTransferEndsInDone : Obligations.AcknowledgedTransferEndsInDone := by
  unfold Obligations.AcknowledgedTransferEndsInDone
  intro s ty ack₁ ack₂ resp b hidle hseq hmem hamount hroom hvalid hreg hxfer hack₁ hack₂ hresp hprefix
    hfields hincrease hevents
  have hxchg : s.core.exch.xchgAct = false := (Bool.or_eq_false_iff.mp hidle).1
  have hstart := Takes.aftStart s.params ty hidle
  rw [aftStartRule_begins hseq s.params ty hamount hroom] at hstart
  have hlen : (registrationFrame s.params s.core).length ≤ 260 := by
    rw [registrationFrame_length]; decide
  have hne : registrationFrame s.params s.core ≠ [] := buildFrame_ne_nil _ _ _
  generalize registrationFrame s.params s.core = f at hstart hlen hne
  obtain ⟨-, -, hrxbuf, -⟩ := hmem
  have hcfg : (s.core.registrationBegun ty f).cfg = s.core.cfg := by simp
  obtain ⟨d, hpolls, hcarries, hoffers, hlast, hinfo⟩ :=
    (Offers.registrationBegun hlen hne hrxbuf ty).reachesPolls s.params ((parseOk_iff _).mp hack₁)
      ((parseOk_iff _).mp hack₂) (by rwa [hcfg]) (by rwa [hcfg])
  have hpre := hcarries.pre.trans (CoreState.registrationBegun_pre s.core f ty)
  have hshown : shownBalance d.cfg.addr resp = some b := by
    rw [shownBalance_eq s.params, hcarries.cfg, hcfg, if_pos hprefix, hfields]
  have hreq : d.req.type = ty ∧ d.req.amount = s.core.opnd.value := by rw [hcarries.req]; simp
  have hconf : (d.withBal b).confirmed = true := by
    simp [CoreState.confirmed_iff, hcarries.preValid, hreq, hpre, hvalid, hincrease]
  obtain ⟨e, hdone, hstatus, hact, hbal, hpre', hlast', hinfo', hrx⟩ :=
    hoffers.confirmed s.params ((parseOk_iff _).mp hresp) hshown hconf
  rw [hcfg] at hpolls
  have htakes : Takes s.params s.core s.events e := by
    rw [hevents]
    exact (hstart.append hpolls).append hdone
  obtain ⟨t, hrun, -, rfl, -⟩ := htakes s [] rfl rfl (List.append_nil _).symm
  rw [hinfo, CoreState.registrationBegun_seqInfo] at hinfo'
  refine ⟨t, hrun, ?_, ?_, ?_, ?_, hbal, hpre'.trans hpre, ?_, ?_, ?_, ?_, hrx⟩
  · rw [hstatus]
  · rw [hstatus]
  · rw [hstatus]
    exact hcarries.failKind.trans (by simp)
  · rw [CoreState.active, hact, hcarries.xchgAct, CoreState.registrationBegun_exch, hxchg, hstatus]
    rfl
  · rw [hlast', hlast, CoreState.registrationBegun_txidLast]
  · rw [hinfo']
  · rw [hinfo']
  · rw [hinfo']
    rfl

end Sys2Proof.Machine
end

section
/-! SUPPORT. FAIL_KIND and its cause (R304): what an exchange does to the pair of SEQ_STATE and FAIL_KIND
(`CauseMove`), and with the host operations all that a reaction can do to it. -/

namespace Sys2Proof.Machine

/-- The causes of a failure (R304). -/
def ErrCode.IsCause (e : ErrCode) : Prop :=
  e = .transportError ∨ e = .encodingError ∨ e = .cancelled

/-- FAIL_KIND is kept, neither into nor out of Failed; or Failed is entered, with its cause in FAIL_KIND and
in ERR, and the CORE is quiet. -/
inductive CauseMove (c d : CoreState) : Prop
  | keeps (seq : d.status.seq = .failed ↔ c.status.seq = .failed)
      (kind : d.status.failKind = c.status.failKind)
  | fails (entered : c.status.seq ≠ .failed) (seq : d.status.seq = .failed)
      (cause : d.status.failKind.IsCause) (err : d.status.err = d.status.failKind) (quiet : Quiet d)

namespace CauseMove
variable {c c' d : CoreState}

/-- A move reads nothing of its start but FAIL_KIND and whether SEQ_STATE is Failed. -/
theorem after (h : CauseMove c' d) (hseq : c'.status.seq = .failed ↔ c.status.seq = .failed)
    (hkind : c'.status.failKind = c.status.failKind) : CauseMove c d := by
  cases h with
  | keeps seq kind => exact .keeps (seq.trans hseq) (kind.trans hkind)
  | fails entered seq cause err quiet => exact .fails (mt hseq.mpr entered) seq cause err quiet

/-- A change between states other than Failed. -/
theorem of_ne (hc : c.status.seq ≠ .failed) (hd : d.status.seq ≠ .failed)
    (hkind : d.status.failKind = c.status.failKind) : CauseMove c d :=
  .keeps (iff_of_false hd hc) hkind

theorem fail (hc : c.status.seq ≠ .failed) {k : ErrCode} (hk : k.IsCause) : CauseMove c (c.fail k) :=
  .fails hc rfl hk rfl ⟨rfl, nofun⟩

theorem settle (c : CoreState) : CauseMove c c.settle := by
  refine .keeps ?_ rfl
  change c.status.seq.settled = .failed ↔ _
  cases c.status.seq <;> decide

theorem pollDecide (hseq : c.status.seq = .verifyingBalance) (ok : Bool) :
    CauseMove c (c.pollDecide ok) := by
  have hc : c.status.seq ≠ .failed := by rw [hseq]; decide
  rcases c.pollDecide_cases ok with ⟨-, -, heq⟩ | ⟨-, -, heq⟩ | ⟨-, -, heq⟩ <;> rw [heq]
  · exact of_ne hc nofun rfl
  · exact of_ne hc nofun rfl
  · exact .keeps .rfl rfl

theorem pollEnd (p : Params) (hseq : c.status.seq = .verifyingBalance) (r : ExchangeOutcome) :
    CauseMove c (c.pollEnd p r) := by
  rcases c.pollEnd_cases p r with ⟨d, -, hbody, heq⟩ | ⟨-, heq⟩ <;> rw [heq]
  · obtain ⟨hstatus, -⟩ := balanceBody_control hbody
    exact (pollDecide (hstatus ▸ hseq) true).after (by rw [hstatus]; rfl) (by rw [hstatus]; rfl)
  · exact (pollDecide (by exact hseq) false).after .rfl rfl

/-! Where a cancel may be pending, Failed has not been entered yet. -/

section
variable (hlive : c.status.cancelPending = true → c.status.seq ≠ .failed)
include hlive

theorem endWrite : CauseMove c c.endWrite := by
  rcases c.endWrite_cases with ⟨-, hcancel, heq⟩ | ⟨-, heq⟩ <;> rw [heq]
  · exact fail (hlive hcancel) (.inr (.inr rfl))
  · exact .keeps .rfl rfl

theorem startExchange (w : Owner) : CauseMove c (c.startExchange w) := by
  rcases c.startExchange_cases w with ⟨-, heq⟩ | ⟨-, heq⟩ <;> rw [heq]
  · exact (endWrite (by exact hlive)).after .rfl rfl
  · exact .keeps .rfl rfl

theorem seqExchangeEnd (p : Params) {r : ExchangeOutcome}
    (herr : r = .transport → c.status.seq ≠ .failed) : CauseMove c (c.seqExchangeEnd p r) := by
  rcases c.seqExchangeEnd_cases p r with
    ⟨hr, heq⟩ | ⟨-, hseq, heq⟩ | ⟨-, -, -, heq⟩ | ⟨-, -, -, -, heq⟩ | ⟨-, -, -, -, heq⟩ <;> rw [heq]
  · exact fail (herr hr) (.inl rfl)
  · exact pollEnd p hseq r
  · exact (settle _).after .rfl rfl
  · exact (startExchange (by exact hlive) _).after .rfl rfl
  · exact (settle _).after .rfl rfl

theorem endRead (p : Params) {r : ExchangeOutcome}
    (herr : r = .transport → c.exch.owner = .sequencer → c.status.seq ≠ .failed) :
    CauseMove c (c.endRead p r) := by
  rcases c.endRead_cases p r with ⟨-, heq⟩ | ⟨howner, heq⟩ <;> rw [heq]
  · exact .keeps .rfl rfl
  · exact (seqExchangeEnd (by exact hlive) p (by exact fun hr => herr hr howner)).after .rfl rfl

theorem endRead_received (p : Params) {r : ExchangeOutcome} (hr : r ≠ .transport) :
    CauseMove c (c.endRead p r) := endRead hlive p fun h => absurd h hr

theorem wireStep {p : Params} (h : WireStep p c d) : CauseMove c d := by
  cases h with
  | accept =>
    rw [CoreState.txAccept_eq]
    split
    · exact (endWrite (by exact hlive)).after .rfl rfl
    · exact .keeps .rfl rfl
  | receive b =>
    rcases c.rxByte_cases p b with ⟨-, heq⟩ | ⟨-, heq, -⟩ | ⟨-, heq, -⟩ <;> rw [heq]
    · exact .keeps .rfl rfl
    · exact (endRead_received (c := c.storeRx p b) hlive p (by decide)).after .rfl rfl
    · exact .keeps .rfl rfl

theorem tick (p : Params) : CauseMove c (c.tick p) := by
  rcases c.tick_cases p with ⟨-, -, heq⟩ | ⟨-, -, heq⟩ | ⟨-, -, heq⟩ | ⟨-, -, heq⟩ <;> rw [heq]
  · exact .keeps .rfl rfl
  · refine (endRead_received (c := c.ticked) hlive p ?_).after .rfl rfl
    split <;> decide
  · rcases (c.withElapsed (c.elapsed.tick c.status.seq)).tickWait_cases p with
      ⟨hseq, -, heq⟩ | ⟨hseq, -, heq⟩ | ⟨-, -, heq⟩ | heq <;> rw [heq]
    · have hc : c.status.seq ≠ .failed := fun h => by cases h.symm.trans hseq
      rw [CoreState.enterTransferring_eq]
      exact of_ne hc (by simp) (by simp)
    · have hc : c.status.seq ≠ .failed := fun h => by cases h.symm.trans hseq
      rw [CoreState.enterVerify_eq]
      exact of_ne hc (by simp) (by simp)
    · exact (startExchange (c := c.ticked) hlive _).after .rfl rfl
    · exact .keeps .rfl rfl
  · exact .keeps .rfl rfl

end

end CauseMove

/-! The reactions, from a coherent state. -/

section
variable {c : CoreState} (hc : ControlCoherent c)
include hc

/-- A cancel is pending only in a sequence (R262). -/
theorem ControlCoherent.cancel_not_failed (hcancel : c.status.cancelPending = true) :
    c.status.seq ≠ .failed := by
  obtain ⟨-, -, -, -, -, -, -, hpending, -⟩ := hc
  intro hseq
  have hactive := (hpending hcancel).1
  rw [hseq] at hactive
  cases hactive

/-- Any run of bytes is one move: after a sequence failed, the rest of the bytes are lost. -/
theorem CauseMove.run {p : Params} {d : CoreState} (h : Relation.ReflTransGen (WireStep p) c d) :
    CauseMove c d := by
  refine (WireStep.run_keeps (I := fun d => ControlCoherent d ∧ CauseMove c d) ?_
    ⟨hc, .keeps .rfl rfl⟩ h).2
  rintro d d' ⟨hd, hmove⟩ hstep
  refine ⟨hd.wireStep hstep, ?_⟩
  cases hmove with
  | keeps seq kind => exact (wireStep hd.cancel_not_failed hstep).after seq kind
  | fails entered seq cause err quiet =>
    rw [quiet.wireStep hstep]
    exact .fails entered seq cause err quiet

/-- A channel error fails an exchange of the sequencer, which is active then, and no other. -/
theorem CauseMove.chanErr (p : Params) : CauseMove c (c.chanErr p) := by
  unfold CoreState.chanErr
  split
  · rename_i hbusy
    have howned : ExchangeOwned c :=
      hbusy.elim (fun h => (hc.writing h).owned) fun h => (hc.reading h).owned
    refine endRead hc.cancel_not_failed p fun _ howner => ?_
    rcases howned with ⟨-, hstand, -⟩ | ⟨-, -, hseq | hseq | hseq⟩
    · cases howner.symm.trans hstand
    all_goals rw [hseq]; decide
  · exact .keeps .rfl rfl

end

theorem CauseMove.aftCancel (c : CoreState) : CauseMove c (aftCancelRule c) := by
  rcases aftCancelRule_cases c with ⟨-, heq⟩ | ⟨-, -, heq⟩ | ⟨hactive, -, heq⟩ <;> rw [heq]
  · exact .keeps .rfl rfl
  · exact .keeps .rfl rfl
  · have hlive : c.status.seq ≠ .failed := fun h => by rw [h] at hactive; cases hactive
    exact (CauseMove.fail (c := c.raise .ok) hlive (.inr (.inr rfl))).after .rfl rfl

/-- What a reaction does to the pair: a move, or it leaves a state other than Failed with FAIL_KIND 0. -/
abbrev CauseChange (c d : CoreState) : Prop :=
  CauseMove c d ∨ (d.status.seq ≠ .failed ∧ d.status.failKind = .ok)

/-- AFT_START names the refusal of the request as a failure's cause, or begins without one (R250). -/
theorem CauseChange.aftStart {c : CoreState} (h : AtRest c) (p : Params) (t : TransferType) :
    CauseChange c (aftStartRule p t c) := by
  by_cases hidle : c.status.seq = .idle
  · by_cases hbad : 10 ^ 10 ≤ c.opnd.value.toNat ∨ c.txidLast = BitVec.allOnes 32
    · have hquiet : Quiet (c.requestRefused t) := ⟨h.rxOpen, fun htx => by cases htx.symm.trans h.phase⟩
      rw [aftStartRule_refused hidle p t hbad]
      exact .inl (.fails (by rw [hidle]; decide) rfl (.inr (.inl rfl)) rfl hquiet)
    · obtain ⟨hamount, hroom⟩ := not_or.mp hbad
      rw [aftStartRule_begins hidle p t (Nat.not_le.mp hamount) hroom]
      exact .inr (by simp)
  · unfold aftStartRule
    rw [if_pos hidle]
    exact .inl (.keeps .rfl rfl)

theorem CauseChange.operation {p : Params} {rule : CoreState → CoreState} (hrule : HostRule p rule)
    {c : CoreState} (h : AtRest c) : CauseChange c (rule c) := by
  have hkept {d : CoreState} (hseq : d.status.seq = c.status.seq)
      (hkind : d.status.failKind = c.status.failKind) : CauseChange c d :=
    .inl (.keeps (by rw [hseq]) hkind)
  cases hrule with
  | aftStart t => exact aftStart h p t
  | aftClear =>
    unfold aftClearRule
    split
    · exact .inr ⟨nofun, rfl⟩
    · exact hkept rfl rfl
  | xchg =>
    refine .inl ((CauseMove.startExchange ?_ _).after .rfl rfl)
    exact fun hcancel => by cases h.cancel.symm.trans hcancel
  | balParse =>
    unfold balParseRule
    split
    · rename_i d hd
      obtain ⟨hstatus, -⟩ := balanceBody_control hd
      exact hkept (congrArg Status.seq hstatus :) (congrArg Status.failKind hstatus :)
    · exact hkept rfl rfl
  | crc16 | frameBuild | buildReg | buildBalq => exact hkept rfl rfl
  | bcdEnc n => unfold bcdEncRule; split <;> exact hkept rfl rfl
  | bcdDec n => unfold bcdDecRule; split <;> exact hkept rfl rfl
  | frameParse => unfold frameParseRule; split <;> exact hkept rfl rfl
  | meterParse => unfold meterParseRule; split <;> exact hkept rfl rfl
  | buildXfer t => unfold buildXferRule; split <;> exact hkept rfl rfl

theorem CauseChange.reaction {p : Params} {c d : CoreState} (hc : ControlCoherent c)
    (h : Reaction p c d) : CauseChange c d := by
  cases h with
  | wire h => exact .inl (.run hc h)
  | raise e => exact .inl (.keeps .rfl rfl)
  | operation hrule hidle => exact operation hrule (hc.atRest hidle)
  | cancel => exact .inl (.aftCancel c)
  | writeReg n v =>
    obtain ⟨cfg, opnd, plen, rxlen, heq⟩ := c.writeReg_eq n v
    rw [heq]
    exact .inl (.keeps .rfl rfl)
  | writeMem m i b =>
    obtain ⟨pbuf, rxbuf, keybuf, heq⟩ := c.writeMem_eq p m i b
    rw [heq]
    exact .inl (.keeps .rfl rfl)
  | chanErr => exact .inl (.chanErr hc p)
  | tick => exact .inl (.tick hc.cancel_not_failed p)

/-- Settles O53: a step leaves the pair as it is, enters Failed with the cause in both registers, or leaves a
state other than Failed without a cause. -/
theorem failKindKeepsTheCause : Obligations.FailKindKeepsTheCause := by
  unfold Obligations.FailKindKeepsTheCause
  intro s t hc htrue h
  have hchange : CauseChange s.core t.core := by
    rcases step_reaction h with ⟨-, ht⟩ | hr
    · rw [ht]
      exact .inr ⟨nofun, rfl⟩
    · exact .reaction hc hr
  rcases hchange with (⟨seq, kind⟩ | ⟨entered, seq, cause, err, -⟩) | ⟨hseq, hkind⟩
  · refine ⟨?_, fun hs ht => absurd (seq.mp ht) hs, fun _ _ => kind⟩
    rwa [FailKindTruthful, kind, Ne, seq]
  · exact ⟨⟨fun _ => cause, fun hno => absurd seq hno⟩, fun _ _ => err, fun hs => absurd hs entered⟩
  · exact ⟨⟨fun ht => absurd ht hseq, fun _ => hkind⟩, fun _ ht => absurd ht hseq,
      fun _ ht => absurd ht hseq⟩

end Sys2Proof.Machine
end

section
/-! SUPPORT. Illegal words, Busy, and the steps that always answer (R81, R301, R303, R317). -/

namespace Sys2Proof.Machine

/-! Which words are illegal (R81). -/

/-- The answer of the decoder to an ARG with the domain lo..hi (R81 check 3, R82). -/
def ArgChecked (lo hi : Nat) (arg : Byte) (r : Except DecodeError Instr) : Prop :=
  (lo ≤ arg.toNat → arg.toNat ≤ hi → ∃ i, r = .ok i) ∧
    (¬ (lo ≤ arg.toNat ∧ arg.toNat ≤ hi) → r = .error .argOutOfDomain)

namespace ArgChecked
variable {lo hi : Nat} {arg : Byte}

theorem accepted (hlo : lo ≤ arg.toNat) (hhi : arg.toNat ≤ hi) (i : Instr) :
    ArgChecked lo hi arg (.ok i) := ⟨fun _ _ => ⟨i, rfl⟩, fun hout => absurd ⟨hlo, hhi⟩ hout⟩

theorem rejected (hout : ¬ (lo ≤ arg.toNat ∧ arg.toNat ≤ hi)) :
    ArgChecked lo hi arg (.error .argOutOfDomain) :=
  ⟨fun hlo hhi => absurd ⟨hlo, hhi⟩ hout, fun _ => rfl⟩

theorem of_noArg (arg : Byte) (i : Instr) : ArgChecked 0 0 arg (noArg arg i) := by
  unfold noArg
  split
  · exact accepted (by omega) (by simp [*]) i
  · exact rejected (by bv_omega)

theorem of_byteLen (arg : Byte) (i : Instr) :
    ArgChecked 1 8 arg (if byteLenOk arg then .ok i else .error .argOutOfDomain) := by
  split
  · rename_i hok
    obtain ⟨hlo, hhi⟩ := (byteLenOk_iff arg).mp hok
    exact accepted hlo hhi i
  · rename_i hno
    exact rejected (mt (byteLenOk_iff arg).mpr hno)

/-- The codes 0, 1, 2 of an operand that has a meaning for these and for no other ARG. -/
theorem of_code {α : Type} {code : Option α} {r : Except DecodeError Instr}
    (hcode : code = none ↔ 2 < arg.toNat) (hnone : code = none → r = .error .argOutOfDomain)
    (hsome : ∀ a, code = some a → ∃ i, r = .ok i) : ArgChecked 0 2 arg r := by
  cases h : code with
  | none =>
    rw [hnone h]
    exact rejected fun hin => absurd (hcode.mp h) (Nat.not_lt.mpr hin.2)
  | some a =>
    obtain ⟨i, rfl⟩ := hsome a h
    exact accepted (Nat.zero_le _) (Nat.not_lt.mp (mt hcode.mpr (by simp [h]))) i

end ArgChecked

theorem sourceOfArg_none_iff (arg : Byte) : sourceOfArg arg = none ↔ 2 < arg.toNat := by
  unfold sourceOfArg
  split_ifs <;> simp <;> bv_omega

theorem typeOfArg_none_iff (arg : Byte) : typeOfArg arg = none ↔ 2 < arg.toNat := by
  unfold typeOfArg
  split_ifs <;> simp <;> bv_omega

/-- A reserved OP is not decoded (R81 check 2, R83). -/
theorem decodeOp_of_no_domain {op : Byte} (h : argDomain op.toNat = none) (arg : Byte) :
    decodeOp op arg = .error .unknownOp := by
  unfold argDomain at h
  split at h
  case h_16 => simp only [decodeOp]
  all_goals cases h

/-- The ARG of an assigned OP is checked against its domain (R81 check 3, R82). -/
theorem decodeOp_of_domain {op : Byte} {lo hi : Nat} (h : argDomain op.toNat = some (lo, hi))
    (arg : Byte) : ArgChecked lo hi arg (decodeOp op arg) := by
  unfold argDomain at h
  split at h
  case h_16 => cases h
  all_goals
    rename_i hop
    cases h
    rw [decodeOp, hop]
  case h_2 =>
    exact .of_code (sourceOfArg_none_iff arg) (fun h => by rw [h]; rfl)
      fun src h => ⟨.crc16 src, by rw [h]; rfl⟩
  case h_3 | h_4 => exact .of_byteLen ..
  case h_5 => exact .accepted (Nat.zero_le _) (Nat.le_of_lt_succ arg.isLt) _
  case h_9 =>
    exact .of_code (typeOfArg_none_iff arg) (fun h => by rw [h]; rfl)
      fun t h => ⟨.buildXfer t, by rw [h]; rfl⟩
  case h_13 =>
    exact .of_code (typeOfArg_none_iff arg) (fun h => by rw [h]; rfl)
      fun t h => ⟨.aftStart t, by rw [h]; rfl⟩
  all_goals exact .of_noArg ..

/-- Settles O2: after the check of RSV, the domain of OP decides. -/
theorem illegalWordsRaiseIllegalOpOnly : Obligations.IllegalWordsRaiseIllegalOpOnly := by
  unfold Obligations.IllegalWordsRaiseIllegalOpOnly
  have hfields {w : Word32} (h : rsvField w = 0) :
      decodeWord w = decodeOp (opField w) (argField w) := if_neg (not_not.mpr h)
  refine ⟨fun w => ⟨fun hrsv => if_pos hrsv, fun hrsv hnone => ?_, fun lo hi hrsv hdom hout => ?_,
    fun lo hi hrsv hdom hlo hhi => ?_⟩, fun s w rest e hev herr => ?_⟩
  · rw [hfields hrsv, decodeOp_of_no_domain hnone]
  · rw [hfields hrsv, (decodeOp_of_domain hdom _).2 hout]
  · rw [hfields hrsv]
    exact (decodeOp_of_domain hdom _).1 hlo hhi
  · rw [step_issue hev, herr]
    rfl

/-! Every step answers (R317). -/

/-- The outcome is a next state with the same build-time parameters (R7). -/
def Answers (s : State) (o : Host.Outcome State Fault Refusal) : Prop :=
  ∃ t, o = .next t ∧ t.params = s.params

theorem Answers.next {s t : State} (h : t.params = s.params) : Answers s (.next t) := ⟨t, rfl, h⟩

theorem Answers.withCore (s : State) (c : CoreState) : Answers s (.next (s.withCore c)) := .next rfl

theorem acceptBytes_answers (n : Nat) (s : State) : Answers s (.next (State.acceptBytes n s)) :=
  .next (acceptBytes_keeps n s).1

theorem deliverBytes_answers (s : State) (bs : List Byte) : Answers s (.next (s.deliverBytes bs)) :=
  .next (deliverBytes_keeps s bs).1

theorem takeFrame_answers (s : State) (bs : List Byte) : Answers s (.next (s.takeFrame bs)) := by
  unfold State.takeFrame
  split
  · exact acceptBytes_answers _ s
  · exact .next rfl

theorem hostOp_answers (s : State) (rule : CoreState → CoreState) : Answers s (hostOp s rule) := by
  rw [hostOp_eq]
  exact .withCore s _

/-- An operation that checks its ARG before Busy (R81). -/
theorem Answers.of_ite {s : State} {P : Prop} [Decidable P] {a b : Host.Outcome State Fault Refusal}
    (ha : Answers s a) (hb : Answers s b) : Answers s (if P then a else b) := by
  split
  · exact ha
  · exact hb

theorem exec_answers (i : Instr) (s : State) : Answers s (exec i s) := by
  cases i with
  | nop => exact .withCore s _
  | bcdEnc n => exact .of_ite (hostOp_answers s _) (.withCore s _)
  | bcdDec n => exact .of_ite (hostOp_answers s _) (.withCore s _)
  | aftCancel => exact .withCore s _
  | wireAftRegistration | wireAftTransfer | wireBalanceQuery | wireMeterRead =>
    exact takeFrame_answers s _
  | wireBalanceResponse | wireMeterResponse => exact deliverBytes_answers s _
  | crc16 | frameBuild | frameParse | meterParse | buildReg | buildXfer | buildBalq | balParse | xchg
  | aftStart | aftClear => exact hostOp_answers s _

theorem step_answers (s : State) : Answers s (step s) := by
  cases hev : s.events with
  | nil => rw [step_idle hev]; exact .next rfl
  | cons e rest =>
    cases e with
    | issue w =>
      rw [step_issue hev]
      cases decodeWord w with
      | ok i => exact exec_answers i (s.withEvents rest)
      | error e => exact .withCore (s.withEvents rest) _
    | write n v => rw [step_write hev]; exact .next rfl
    | read n => rw [step_read hev]; exact .next rfl
    | writeB m i b => rw [step_writeB hev]; exact .next rfl
    | readB m i => rw [step_readB hev]; exact .next rfl
    | txAccept => rw [step_txAccept hev]; exact acceptBytes_answers 1 (s.withEvents rest)
    | rxByte b => rw [step_rxByte hev]; exact .next rfl
    | chanErr => rw [step_chanErr hev]; exact .next rfl
    | tick => rw [step_tick hev]; exact .next rfl
    | reset => rw [step_reset hev]; exact .next rfl
    | txFrame =>
      rw [step_txFrame hev]
      rcases fetchSent_cases (s.withEvents rest) with ⟨i, hf⟩ | hf <;> rw [hf]
      · exact exec_answers i (s.withEvents rest)
      · exact acceptBytes_answers _ (s.withEvents rest)
    | rxFrame bs =>
      rw [step_rxFrame hev]
      cases decodeReceived bs with
      | ok i => exact exec_answers i (s.withEvents rest)
      | error e => exact deliverBytes_answers (s.withEvents rest) bs

/-- Settles O7: no outcome of an instruction or of an event is a fault or a refusal. -/
theorem everyStepAnswersANextState : Obligations.EveryStepAnswersANextState := by
  unfold Obligations.EveryStepAnswersANextState
  exact ⟨exec_answers, step_answers⟩

/-! Busy (R303). -/

/-- In its ARG domain, a host operation but NOP and AFT_CANCEL is Busy while the CORE is active. -/
theorem exec_busy {i : Instr} (hop : isHostOp i = true) (hstops : acceptedWhileActive i = false)
    (hwf : i.wf = true) {s : State} (ha : s.core.active = true) :
    exec i s = .next (s.withCore (withErr s.core .busy)) := by
  have hbusy (rule : CoreState → CoreState) :
      hostOp s rule = .next (s.withCore (withErr s.core .busy)) := hostOp_busy ha rule
  cases i with
  | nop | aftCancel => cases hstops
  | bcdEnc n | bcdDec n => exact (if_pos (by rw [byteLenLegal_eq]; exact hwf)).trans (hbusy _)
  | crc16 | frameBuild | frameParse | meterParse | buildReg | buildXfer | buildBalq | balParse | xchg
  | aftStart | aftClear => exact hbusy _
  | _ => cases hop

/-- AFT_START is Busy in a terminal state, whether or not a standalone exchange is active (R250). -/
theorem exec_aftStart_terminal {s : State} (hterminal : s.core.status.seq.isTerminal = true)
    (t : TransferType) : exec (.aftStart t) s = .next (s.withCore (withErr s.core .busy)) := by
  cases ha : s.core.active with
  | true => exact exec_busy rfl rfl rfl ha
  | false =>
    have hne : s.core.status.seq ≠ .idle := fun h => by rw [h] at hterminal; cases hterminal
    rw [exec_aftStart_idle ha, aftStartRule, if_pos hne]
    rfl

/-- Settles O9: Busy comes before the rule of the operation; AFT_START has a Busy of its own, and AFT_CLEAR
finishes. -/
theorem operationsAreBusyWhileActive : Obligations.OperationsAreBusyWhileActive := by
  unfold Obligations.OperationsAreBusyWhileActive
  exact ⟨fun _ _ hop hstops hwf ha => exec_busy hop hstops hwf ha,
    fun t _ hterminal => exec_aftStart_terminal hterminal t,
    fun _ hidle => ⟨_, hostOp_idle hidle _, rfl⟩⟩

end Sys2Proof.Machine
end

section
/-! SUPPORT. The state after RESET (R24, R42, R45, R333). -/

namespace Sys2Proof.Machine

/-- What every register holds after RESET (R22, R24). -/
theorem reset_readReg : ∀ n : BitVec 6, State.reset.core.readReg n =
    if n = 0x06 then 1000 else if n = 0x07 then 1000 else if n = 0x08 then 2000
    else if n = 0x09 then 2000 else if n = 0x0A then 5 else if n = 0x0B then 15 else 0 := by
  decide

/-- Settles O47: RESET gives the CORE of the reset state; its registers are read by number, its memories are
empty. -/
theorem resetValues : Obligations.ResetValues := by
  unfold Obligations.ResetValues
  refine ⟨fun s rest hev => ⟨_, step_reset hev, rfl⟩, reset_readReg, fun m i => ?_, rfl⟩
  cases m <;> rfl

/-- After RESET the CORE is at rest (R333). -/
theorem reset_atRest : AtRest State.reset.core := ⟨rfl, rfl, rfl, rfl, rfl⟩

/-- Settles O48: the CORE of the reset state is at rest, in Idle, with empty memories. -/
theorem resetMeetsTheInvariants : Obligations.ResetMeetsTheInvariants := by
  unfold Obligations.ResetMeetsTheInvariants
  have hmem (size : Nat) : Memory.wf size [] = true := reset_memories_wf size
  refine ⟨⟨hmem _, hmem _, hmem _, hmem _⟩, ⟨rfl, rfl, rfl⟩, by decide, reset_atRest.coherent,
    ⟨nofun, fun _ => rfl⟩, ?_⟩
  rintro (h | h) <;> cases h

end Sys2Proof.Machine
end
